-- ==== Sys2Proof/Word.lean ====
section
/-! DEFINITION. The word types of CMI-FV: a byte, the 16-bit linear-float16 word, the 24-bit opcode triplet, the 32-bit
register word (REG_WIDTH, R8) and the 64-bit binary64 pattern (R34). -/

namespace Sys2Proof

/-- One byte of a report, or of a triplet field. -/
abbrev Byte := BitVec 8

/-- A 16-bit linear-float16 word (R144). -/
abbrev Half := BitVec 16

/-- A 24-bit opcode triplet T: CMD in [7:0], REG in [15:8], SUB in [23:16] (R85). -/
abbrev Triplet := BitVec 24

/-- A 32-bit register of the host window (R37). -/
abbrev Word := BitVec 32

/-- A 64-bit binary64 bit pattern (R34). -/
abbrev DWord := BitVec 64

end Sys2Proof
end

