-- ==== Sys2Proof/Config.lean ====
section
/-! DEFINITION. The parameters of the hardware: those the source fixes (R7), and those an implementation chooses (R8). -/

namespace Sys2Proof.Config

/-- TX_LEN: bytes in a command report (R7). -/
abbrev txLen : Nat := 65

/-- RX_LEN: bytes in a response report (R7). -/
abbrev rxLen : Nat := 64

/-- HDR_LEN: echoed header bytes at the start of a response (R7). -/
abbrev hdrLen : Nat := 2

/-- PAYLOAD_MAX = RX_LEN - HDR_LEN: the most payload bytes one response carries (R7). -/
abbrev payloadMax : Nat := 62

/-- REPORT_ID: command-report byte 0 (R7, R86). -/
abbrev reportId : Byte := 0x00

/-- CHANNELS: the number of output channels (R7). -/
abbrev channels : Nat := 3

/-- WINDOW_BASE: the host address of window offset 0x000. OPEN, with no default (R8, R37): nothing can be proved of its
value. -/
opaque windowBase : Nat

end Sys2Proof.Config

namespace Sys2Proof

/-- The parameters R8 gives a default for and D21, D22 leave open. They are constant along a run; the state carries them,
so a statement about every state is a statement about every value of them (log entry 5). -/
structure Params where
  /-- NAME_SUBIDX: sub-index byte of the read-device-name triplet (R185, D21). -/
  nameSubidx : Byte
  /-- STRING_LEN: LEN of the name, vendor and product reads (R170, D22). -/
  stringLen : Byte
  /-- SELECT_LEN: LEN of a channel select (R170, D22). -/
  selectLen : Byte
  deriving DecidableEq, Repr

/-- The defaults stated in R8. -/
def Params.default : Params := { nameSubidx := 0x00, stringLen := 62, selectLen := 0 }

end Sys2Proof
end

