-- ==== Sys2Proof/Syntax.lean ====
section
/-! DEFINITION. The instructions of opcode_table.json, one constructor a row, and the terms the agents exchange with the
block: host accesses in the syntax of R92, transport requests and answers (R11), and the inputs of one step. -/

namespace Sys2Proof

/-- The instructions: the six CTRL operations (R82) and the sixteen wire commands (R173 to R188). The CTRL operations take
their operands from registers (R81); a wire command's triplet is fixed, but for READ_NAME's sub-index. -/
inductive Instr where
  /-- NOP, OP 0x0 (R141). -/
  | nop
  /-- TRANSACT, OP 0x1 (R111). -/
  | transact
  /-- DEC_LF16, OP 0x2 (R147). -/
  | decLf16
  /-- DEC_U32, OP 0x3 (R148). -/
  | decU32
  /-- LOAD_RAW16, OP 0x4 (R142). -/
  | loadRaw16
  /-- LOAD_RAW32, OP 0x5 (R143). -/
  | loadRaw32
  /-- READ_VIN, 03 88 00 (R173). -/
  | readVin
  /-- READ_VOUT, 03 8B 00 (R174). -/
  | readVout
  /-- READ_IOUT, 03 8C 00 (R175). -/
  | readIout
  /-- READ_TEMP1, 03 8D 00 (R176). -/
  | readTemp1
  /-- READ_TEMP2, 03 8E 00 (R177). -/
  | readTemp2
  /-- READ_FAN, 03 90 00 (R178). -/
  | readFan
  /-- READ_POUT, 03 96 00 (R179). -/
  | readPout
  /-- READ_VENDOR, 03 99 00 (R180). -/
  | readVendor
  /-- READ_PRODUCT, 03 9A 00 (R181). -/
  | readProduct
  /-- READ_POWERED, 03 D1 00 (R182). -/
  | readPowered
  /-- READ_UPTIME, 03 D2 00 (R183). -/
  | readUptime
  /-- READ_PTOTAL, 03 EE 00 (R184). -/
  | readPtotal
  /-- READ_NAME, FE 03 NAME_SUBIDX (R185); the sub-index is the operand (log entry 5). -/
  | readName (sub : Byte)
  /-- SELECT_CH0, 02 00 00 (R186). -/
  | selectCh0
  /-- SELECT_CH1, 02 00 01 (R187). -/
  | selectCh1
  /-- SELECT_CH2, 02 00 02 (R188). -/
  | selectCh2
  deriving DecidableEq, Repr

/-- The two formats that hold instruction words (R80). Which one a word has is fixed by where it sits. -/
inductive Format where
  /-- The 32-bit word written to offset 0x008 (R81). -/
  | ctrl
  /-- The 24-bit opcode triplet (R85). -/
  | triplet
  deriving DecidableEq, Repr

/-- The width of a host access (R61). -/
inductive Width where
  | byte
  | half
  | word
  deriving DecidableEq, Repr

/-- What the host does next, in the syntax of R92. `op` and `xact` are the lists of `write`, `wait` and `check` they stand
for (Machine/HostProgram.lean). -/
inductive HostAction where
  /-- `lw OFF -> name`, at the given width. -/
  | read (w : Width) (off : Nat)
  /-- `sw OFF, VAL`, at the given width. -/
  | write (w : Width) (off : Nat) (val : Word)
  /-- `wait`: read STATUS until PHASE is IDLE or FAULT. -/
  | wait
  /-- `check`: read STATUS; in FAULT, stop the program with the error. -/
  | check
  /-- A wire command word: the host procedure of R208 for the triplet (log entry 3). -/
  | command (t : Triplet)
  /-- The call `read_snapshot(handle)` of R200; no access of the block (log entry 19). -/
  | readSnapshot
  /-- The end of a row of the reference program: the host's check of R205 that the row's own transaction is the one that
  completed; no effect on the block (log entry 19). -/
  | endRow (t : Triplet) (len : Byte)
  /-- The return of `read_snapshot` with the record (R200, R204; log entry 19). -/
  | returnSnapshot
  deriving DecidableEq, Repr

/-- The requests the block makes of the Transport (R11, R53). -/
inductive Request where
  /-- `XportWrite` of the 65 bytes of TXB. -/
  | write
  /-- `XportRead` of 64 bytes. -/
  | read
  deriving DecidableEq, Repr

/-- What the Transport answers (R11). -/
inductive Answer where
  /-- `Accepted(n)`, to a write request. -/
  | accepted (n : Nat)
  /-- `Data(b)`, to a read request. -/
  | data (b : List Byte)
  /-- `Fail`, to either request. -/
  | fail
  deriving DecidableEq, Repr

/-- Which agent moves in a step, and with what (R6; log entry 1). -/
inductive Input where
  /-- The host takes the next action of its program. -/
  | host
  /-- The Transport answers the pending request. -/
  | answer (a : Answer)
  /-- The Transport answers a request that a reset abandoned (R251; log entry 7). -/
  | lateAnswer (a : Answer)
  /-- The platform asserts reset (R250). -/
  | reset
  deriving DecidableEq, Repr

/-- The decode kind of a register descriptor (R170). -/
inductive DecodeKind where
  | rawString
  | linearFloat16
  | unsigned32
  deriving DecidableEq, Repr

end Sys2Proof
end

