-- ==== Sys2Proof/WellFormed.lean ====
section
/-! DEFINITION. When an instruction is one of the table's rows under given parameters. Only READ_NAME has an operand: its
sub-index must be the parameter NAME_SUBIDX (R185, R88). -/

namespace Sys2Proof

/-- The check, one arm a constructor. -/
def Instr.wf (p : Params) : Instr → Bool
  | .nop => true
  | .transact => true
  | .decLf16 => true
  | .decU32 => true
  | .loadRaw16 => true
  | .loadRaw32 => true
  | .readVin => true
  | .readVout => true
  | .readIout => true
  | .readTemp1 => true
  | .readTemp2 => true
  | .readFan => true
  | .readPout => true
  | .readVendor => true
  | .readProduct => true
  | .readPowered => true
  | .readUptime => true
  | .readPtotal => true
  | .readName sub => sub == p.nameSubidx
  | .selectCh0 => true
  | .selectCh1 => true
  | .selectCh2 => true

end Sys2Proof
end

