-- ==== Sys2Proof/Decode.lean ====
section
/-! DEFINITION. Byte order of the words (R63, R67, R85), the decoder of the two instruction formats (R80 to R85), total on
any bytes and rejecting by name, the encoder beside it, and the host's table-word entry point. -/

namespace Sys2Proof

/-- The four bytes of a window word, lowest lane first (R63). -/
def wordBytes (w : Word) : List Byte :=
  [w.extractLsb' 0 8, w.extractLsb' 8 8, w.extractLsb' 16 8, w.extractLsb' 24 8]

/-- The word with the given bytes, `b0` in the lowest lane (R63, R67). -/
def wordOfBytes (b0 b1 b2 b3 : Byte) : Word := b3 ++ b2 ++ b1 ++ b0

/-- The command, register and sub-index bytes of a triplet, in command-report order (R85). -/
def tripletBytes (t : Triplet) : List Byte :=
  [t.extractLsb' 0 8, t.extractLsb' 8 8, t.extractLsb' 16 8]

/-- Why the decoder rejects bytes. -/
inductive DecodeError where
  /-- The number of bytes is not the format's (R80). -/
  | wrongLength (f : Format) (n : Nat)
  /-- OP in 0x6..0xF (R83). -/
  | reservedOp (op : BitVec 4)
  /-- A triplet outside the table (R89). It has no row; the block still frames it. -/
  | unlistedTriplet (command register subIndex : Byte)
  deriving DecidableEq, Repr

/-- The operation of a CTRL word (R82). -/
def decodeOp (op : BitVec 4) : Except DecodeError Instr :=
  match op.toNat with
  | 0x0 => .ok .nop
  | 0x1 => .ok .transact
  | 0x2 => .ok .decLf16
  | 0x3 => .ok .decU32
  | 0x4 => .ok .loadRaw16
  | 0x5 => .ok .loadRaw32
  | _ => .error (.reservedOp op)

/-- The twelve addresses of the read-register command (R172 to R184). -/
def decodeReadRegister (register : Byte) : Option Instr :=
  match register.toNat with
  | 0x88 => some .readVin
  | 0x8B => some .readVout
  | 0x8C => some .readIout
  | 0x8D => some .readTemp1
  | 0x8E => some .readTemp2
  | 0x90 => some .readFan
  | 0x96 => some .readPout
  | 0x99 => some .readVendor
  | 0x9A => some .readProduct
  | 0xD1 => some .readPowered
  | 0xD2 => some .readUptime
  | 0xEE => some .readPtotal
  | _ => none

/-- The three channels of the select-output-channel command (R186 to R188). -/
def decodeSelect (subIndex : Byte) : Option Instr :=
  match subIndex.toNat with
  | 0 => some .selectCh0
  | 1 => some .selectCh1
  | 2 => some .selectCh2
  | _ => none

/-- The known triplets by their command byte (R88). -/
def knownTriplet (p : Params) (command register subIndex : Byte) : Option Instr :=
  if command = 0x03 ∧ subIndex = 0x00 then decodeReadRegister register
  else if command = 0x02 ∧ register = 0x00 then decodeSelect subIndex
  else if command = 0xFE ∧ register = 0x03 ∧ subIndex = p.nameSubidx then some (.readName subIndex)
  else none

/-- The decoder: a format, fixed by where the bytes sit (R80), and the bytes, lowest first. CTRL bits [31:4] are ignored
(R84). -/
def decode (p : Params) : Format → List Byte → Except DecodeError Instr
  | .ctrl, [b0, _, _, _] => decodeOp (b0.extractLsb' 0 4)
  | .triplet, [c, r, s] =>
    match knownTriplet p c r s with
    | some i => .ok i
    | none => .error (.unlistedTriplet c r s)
  | f, bs => .error (.wrongLength f bs.length)

/-- The format an instruction's word has (R80, R82, R85). -/
def Instr.format : Instr → Format
  | .nop => .ctrl
  | .transact => .ctrl
  | .decLf16 => .ctrl
  | .decU32 => .ctrl
  | .loadRaw16 => .ctrl
  | .loadRaw32 => .ctrl
  | .readVin => .triplet
  | .readVout => .triplet
  | .readIout => .triplet
  | .readTemp1 => .triplet
  | .readTemp2 => .triplet
  | .readFan => .triplet
  | .readPout => .triplet
  | .readVendor => .triplet
  | .readProduct => .triplet
  | .readPowered => .triplet
  | .readUptime => .triplet
  | .readPtotal => .triplet
  | .readName _ => .triplet
  | .selectCh0 => .triplet
  | .selectCh1 => .triplet
  | .selectCh2 => .triplet

/-- The bytes in a word of the format (R80). -/
def Format.byteLength : Format → Nat
  | .ctrl => 4
  | .triplet => 3

/-- The encoder: the bytes of an instruction's word, lowest first, ignored bits 0 (R82, R173 to R188). -/
def encode : Instr → List Byte
  | .nop => wordBytes 0x00000000
  | .transact => wordBytes 0x00000001
  | .decLf16 => wordBytes 0x00000002
  | .decU32 => wordBytes 0x00000003
  | .loadRaw16 => wordBytes 0x00000004
  | .loadRaw32 => wordBytes 0x00000005
  | .readVin => [0x03, 0x88, 0x00]
  | .readVout => [0x03, 0x8B, 0x00]
  | .readIout => [0x03, 0x8C, 0x00]
  | .readTemp1 => [0x03, 0x8D, 0x00]
  | .readTemp2 => [0x03, 0x8E, 0x00]
  | .readFan => [0x03, 0x90, 0x00]
  | .readPout => [0x03, 0x96, 0x00]
  | .readVendor => [0x03, 0x99, 0x00]
  | .readProduct => [0x03, 0x9A, 0x00]
  | .readPowered => [0x03, 0xD1, 0x00]
  | .readUptime => [0x03, 0xD2, 0x00]
  | .readPtotal => [0x03, 0xEE, 0x00]
  | .readName sub => [0xFE, 0x03, sub]
  | .selectCh0 => [0x02, 0x00, 0x00]
  | .selectCh1 => [0x02, 0x00, 0x01]
  | .selectCh2 => [0x02, 0x00, 0x02]

/-- The format of a table word, told by its width in bits: the TRIPLET rows have 24 bits, the CTRL rows fewer or 32 (R80;
log entry 13). -/
def tableFormat (nbits : Nat) : Format := if nbits = 24 then .triplet else .ctrl

/-- The bytes of a table word in its format. -/
def tableBytes (nbits w : Nat) : List Byte :=
  match tableFormat nbits with
  | .triplet => tripletBytes (BitVec.ofNat 24 w)
  | .ctrl => wordBytes (BitVec.ofNat 32 w)

/-- The instruction the decoder reads from a table word, under the default parameters; none where it rejects. -/
def decodeTableWord (nbits w : Nat) : Option Instr :=
  match decode Params.default (tableFormat nbits) (tableBytes nbits w) with
  | .ok i => some i
  | .error _ => none

end Sys2Proof
end

