-- ==== Sys2Proof/Machine/State.lean ====
section
/-! DEFINITION. The state of the machine as plain data: the eighteen elements of R20, the environment around the block
(host program, Transport, inputs), the parameters; the stops of a step; and the state after reset (R54). -/

namespace Sys2Proof.Machine

/-- The transaction phase (R23). -/
inductive Phase where
  /-- 0: no transaction is outstanding. -/
  | idle
  /-- 1: a report is framed and handed over; the block waits for the write answer. -/
  | tx
  /-- 2: the full write completed; the block waits for the read answer. -/
  | rx
  /-- 3: a transaction failed; sticky until reset. -/
  | fault
  deriving DecidableEq, Repr

/-- A report buffer: byte index and byte, in canonical form (`Memory.wf`). An index that is not listed reads as
`Memory.unlisted`, so two buffers with the same bytes are the same list (log entry 12). -/
abbrev Memory := List Host.Cell

/-- What an unlisted byte of a buffer reads as: the reset contents of R54. -/
def Memory.unlisted : Byte := 0x00

/-- An output channel of the device (R7, R186 to R188). -/
abbrev Channel := Fin Config.channels

/-- One output channel's readings, as binary64 patterns. -/
structure ChannelReading where
  voltage : DWord
  current : DWord
  watts : DWord
  deriving DecidableEq, Repr

/-- The snapshot record, its fields in the order of R204; strings as the text before the first 0x00 (R171, R191). -/
structure Snapshot where
  deviceName : List Byte
  vendor : List Byte
  product : List Byte
  poweredSeconds : Word
  uptimeSeconds : Word
  temp1 : DWord
  temp2 : DWord
  fanRpm : DWord
  inputVoltage : DWord
  totalWatts : DWord
  channel0 : ChannelReading
  channel1 : ChannelReading
  channel2 : ChannelReading
  deriving DecidableEq, Repr

/-- How a call of `read_snapshot` stands (R200). -/
inductive SnapshotOutcome where
  /-- It has not returned. -/
  | running
  /-- R200 (a): every transaction completed, and the host has the record. -/
  | complete (record : Snapshot)
  /-- R200 (b): a `check` found FAULT, and the host has the error and no record (R202). -/
  | failed (err : BitVec 4)
  /-- A row's transaction did not complete although no `check` found FAULT, as when a reset came between: aborted, with no
  record (R205; log entry 19). -/
  | lost
  deriving DecidableEq, Repr

/-- The sequencer's state, host state all (R207): one call of `read_snapshot`, made afresh by each call (R204; log
entry 19). -/
structure SnapshotRun where
  /-- Reports the Transport had been given before the call. -/
  sentBefore : Nat
  /-- Values the host had read before the call. -/
  readsBefore : Nat
  /-- Rows of R201 whose transactions completed with a good echo (R205). -/
  rows : Nat
  /-- How the call stands. -/
  outcome : SnapshotOutcome
  deriving DecidableEq, Repr

/-- The state: the block's elements (R20), then the environment and the parameters. -/
structure State where
  /-- CMD, command byte of the next triplet (R38). -/
  cmd : Byte
  /-- REG, register byte of the next triplet (R38). -/
  reg : Byte
  /-- SUB, sub-index byte of the next triplet (R38). -/
  sub : Byte
  /-- LEN, expected payload length of the next TRANSACT (R39). -/
  len : Byte
  /-- ELEN, LEN as latched at issue (R29). -/
  elen : Byte
  /-- PHASE (R23). -/
  phase : Phase
  /-- PVALID (R24). -/
  pvalid : Bool
  /-- XFAIL (R25). -/
  xfail : Bool
  /-- ERR, the 4-bit error code (R26, R220). -/
  err : BitVec 4
  /-- TXCNT (R27). -/
  txcnt : Byte
  /-- RXCNT (R28). -/
  rxcnt : Byte
  /-- PLEN (R30). -/
  plen : BitVec 6
  /-- TXB[0..64] (R31). -/
  txb : Memory
  /-- RXB[0..63] (R32). -/
  rxb : Memory
  /-- PAYLOAD[0..61] (R33). -/
  payload : Memory
  /-- RAW (R36). -/
  raw : Word
  /-- FRES (R34). -/
  fres : DWord
  /-- URES (R35). -/
  ures : Word
  /-- The command reports the Transport was given, oldest first: the outbound byte stream (R60, R68; log entry 18). -/
  sent : List (List Byte)
  /-- Requests a reset abandoned whose answer may still come (R251; log entry 7). -/
  abandoned : List Request
  /-- The channel the device is assumed to have selected; none where it is not known (R52, R189; log entry 6). -/
  channel : Option Channel
  /-- What the host has still to do (R22, R92; log entry 2). -/
  program : List HostAction
  /-- Offset and value of every `lw` so far, oldest first (R92; log entry 18). -/
  reads : List (Nat × Word)
  /-- The error a `check` stopped the host program with (R92). -/
  stopped : Option (BitVec 4)
  /-- The last call of `read_snapshot`; none before the first (R200, R204, R207; log entry 19). -/
  run : Option SnapshotRun
  /-- Which agent moves next, and with what; empty: the host moves (log entry 1). -/
  inputs : List Input
  /-- The parameters, constant along a run (R8; log entry 5). -/
  params : Params
  deriving DecidableEq, Repr

/-- Reasons for the machine to stop with a fault. There is none: the spec's fault, PHASE = FAULT, is a state in which the
host goes on reading diagnostics (R224, R226), so entering it is a next state (log entry 9). -/
inductive Fault where
  deriving DecidableEq, Repr

/-- Reasons for a step to have no meaning (R12). Each is safe: no claim holds of a refused run. -/
inductive Refusal where
  /-- Raised by `exec` for an instruction without a meaning yet. Safe. -/
  | notModelled (mnemonic : String)
  /-- Raised by a CTRL write the decoder rejects: a reserved OP (R83). Safe. -/
  | undecodable (why : DecodeError)
  /-- Raised by TRANSACT in TX or RX (R112). Safe. -/
  | transactWhileBusy
  /-- Raised by an 8- or 16-bit host access (R61). Safe. -/
  | narrowAccess (w : Width) (off : Nat)
  /-- Raised by a 32-bit access at an offset that is no multiple of 4 (R62). Safe. -/
  | misaligned (off : Nat)
  /-- Raised by an aligned 32-bit access at an unmapped offset (R64). Safe. -/
  | unmapped (off : Nat)
  /-- Raised by an answer the Transport has no step to give (R122). Safe. -/
  | impossibleAnswer (a : Answer)
  deriving DecidableEq, Repr

/-- The machine right after reset: every element of R20 at its value in R54, the environment empty (log entry 4), the
parameters at their defaults (R8). -/
def State.reset : State where
  cmd := 0x00
  reg := 0x00
  sub := 0x00
  len := 0x00
  elen := 0x00
  phase := .idle
  pvalid := false
  xfail := false
  err := 0
  txcnt := 0
  rxcnt := 0
  plen := 0
  txb := []
  rxb := []
  payload := []
  raw := 0x00000000
  fres := 0x0000000000000000
  ures := 0x00000000
  sent := []
  abandoned := []
  channel := none
  program := []
  reads := []
  stopped := none
  run := none
  inputs := []
  params := Params.default

end Sys2Proof.Machine
end

