-- ==== Sys2Proof/Machine/Flags.lean ====
section
/-! DEFINITION. Codes and status: the PHASE codes (R23), the error kinds and their numbers (R220), and the STATUS word with
the fields a host picks out of it (R41, R92). -/

namespace Sys2Proof.Machine

/-- The 2-bit code of a phase (R23). -/
def Phase.code : Phase → BitVec 2
  | .idle => 0
  | .tx => 1
  | .rx => 2
  | .fault => 3

/-- The error kinds of R220. TransportOpenFailed and DeviceNotRecognized are never raised by the block (R222). -/
inductive ErrorKind where
  | transportOpenFailed
  | transportWriteShortOrFailed
  | transportReadShortOrFailed
  | protocolMismatch
  | deviceNotRecognized
  deriving DecidableEq, Repr

/-- ERR when there is no fault (R220). -/
def errNone : BitVec 4 := 0

/-- The error codes of R220. -/
def ErrorKind.code : ErrorKind → BitVec 4
  | .transportOpenFailed => 1
  | .transportWriteShortOrFailed => 2
  | .transportReadShortOrFailed => 3
  | .protocolMismatch => 4
  | .deviceNotRecognized => 5

/-- The STATUS word: RXCNT [31:24], TXCNT [23:16], ERR [11:8], XFAIL [3], PVALID [2], PHASE [1:0], the rest 0 (R41). -/
def statusWord (s : State) : Word :=
  s.rxcnt ++ s.txcnt ++ (0 : BitVec 4) ++ s.err ++ (0 : BitVec 4) ++ BitVec.ofBool s.xfail ++ BitVec.ofBool s.pvalid
    ++ s.phase.code

/-- `s[1:0]` of a STATUS word (R92). -/
def statusPhase (w : Word) : BitVec 2 := w.extractLsb' 0 2

/-- `s[11:8]` of a STATUS word (R92). -/
def statusErr (w : Word) : BitVec 4 := w.extractLsb' 8 4

/-- What `wait` waits for: PHASE reads IDLE or FAULT (R92, R255). -/
def statusDone (w : Word) : Bool := statusPhase w == Phase.idle.code || statusPhase w == Phase.fault.code

/-- What `check` stops on: PHASE reads FAULT (R92). -/
def statusFault (w : Word) : Bool := statusPhase w == Phase.fault.code

end Sys2Proof.Machine
end

