-- ==== Sys2Proof/Machine/Ops.lean ====
section
/-! DEFINITION. The named operations over buffers and registers: one byte of a buffer, whole buffers, the registers the host
and the decoder write, entering the fault state (R224) and leaving it, which only reset does (R226, R250). -/

namespace Sys2Proof.Machine

/-! ### Buffers -/

/-- One byte of a buffer. -/
def Memory.read : Memory → Nat → Byte
  | [], _ => Memory.unlisted
  | c :: m, a => if c.1 = a then c.2 else Memory.read m a

/-- Forget whatever is listed at an index. -/
def Memory.erase (m : Memory) (a : Nat) : Memory := m.filter fun c => c.1 != a

/-- List a byte at an index that is not listed, keeping the indices rising. -/
def Memory.insertCell (a : Nat) (v : Byte) : Memory → Memory
  | [] => [(a, v)]
  | c :: m => if a < c.1 then (a, v) :: c :: m else c :: Memory.insertCell a v m

/-- `B[a] <- v` (R11). Writing what an unlisted byte reads as removes the entry. -/
def Memory.write (m : Memory) (a : Nat) (v : Byte) : Memory :=
  if v = Memory.unlisted then Memory.erase m a else Memory.insertCell a v (Memory.erase m a)

/-- `B[base + i] <- bs[i]` for every byte of `bs`. -/
def Memory.writeBytes (m : Memory) (base : Nat) : List Byte → Memory
  | [] => m
  | b :: bs => Memory.writeBytes (Memory.write m base b) (base + 1) bs

/-- A buffer with every byte 0x00. -/
def Memory.cleared : Memory := []

/-- The buffer that holds exactly the given bytes from index 0 on. -/
def Memory.ofBytes (bs : List Byte) : Memory := Memory.writeBytes Memory.cleared 0 bs

/-- The first `n` bytes of a buffer, in order (R68). -/
def Memory.bytes (n : Nat) (m : Memory) : List Byte := (List.range n).map (Memory.read m)

/-- Byte `i` of a buffer of `size` bytes as a window shows it: 0x00 past the end (R48, R50). -/
def Memory.byteAt (size : Nat) (m : Memory) (i : Nat) : Byte := if i < size then Memory.read m i else 0x00

/-- The canonical form: indices strictly rising, below the buffer's size, and no entry equal to what an unlisted byte reads
as (log entry 12). -/
abbrev Memory.wf (size : Nat) (m : Memory) : Prop :=
  m.Pairwise (fun c d => c.1 < d.1) ∧ ∀ c ∈ m, c.1 < size ∧ c.2 ≠ Memory.unlisted

/-! ### Registers -/

/-- A host write to TRIPLET: CMD, REG and SUB; bits [31:24] are ignored (R38, R51). -/
def writeTriplet (v : Word) (s : State) : State :=
  { s with cmd := v.extractLsb' 0 8, reg := v.extractLsb' 8 8, sub := v.extractLsb' 16 8 }

/-- A host write to LEN; bits [31:8] are ignored (R39, R51). -/
def writeLen (v : Word) (s : State) : State := { s with len := v.extractLsb' 0 8 }

/-- A write to RAW, all 32 bits (R45). -/
def writeRaw (v : Word) (s : State) : State := { s with raw := v }

/-- FRES, written by DEC_LF16 alone (R34). -/
def writeFres (v : DWord) (s : State) : State := { s with fres := v }

/-- URES, written by DEC_U32 alone (R35). -/
def writeUres (v : Word) (s : State) : State := { s with ures := v }

/-! ### The agents around the block -/

/-- Replace what the host has still to do. -/
def setProgram (p : List HostAction) (s : State) : State := { s with program := p }

/-- Replace the inputs still to come. -/
def setInputs (i : List Input) (s : State) : State := { s with inputs := i }

/-- `name <- HostRead(off)`: the host keeps the value (R92). -/
def logRead (off : Nat) (v : Word) (s : State) : State := { s with reads := s.reads ++ [(off, v)] }

/-- Replace the state of the snapshot sequencer. -/
def setRun (r : Option SnapshotRun) (s : State) : State := { s with run := r }

/-- A call of `read_snapshot` that has not returned ends with the outcome; one that has keeps its own (R204). -/
def endRun (o : SnapshotOutcome) : Option SnapshotRun → Option SnapshotRun
  | none => none
  | some r => some (if r.outcome = .running then { r with outcome := o } else r)

/-- The host program stops with an error, and a snapshot attempt with it (R92, R200 (b), R202). -/
def stopHost (e : BitVec 4) (s : State) : State :=
  { s with program := [], stopped := some e, run := endRun (.failed e) s.run }

/-- The device's channel is no longer known (R52, U1, U9). -/
def forgetChannel (s : State) : State := { s with channel := none }

/-- The outstanding transport request, implied by PHASE (R53). -/
def pendingRequest (s : State) : Option Request :=
  match s.phase with
  | .idle => none
  | .tx => some .write
  | .rx => some .read
  | .fault => none

/-! ### The fault state -/

/-- `raise E`: ERR <- code(E) and PHASE <- FAULT. The raising rule writes its diagnostics itself; nothing else changes
(R224). There is no vector and nothing is saved. -/
def raiseFault (e : ErrorKind) (s : State) : State := { s with err := e.code, phase := .fault }

/-- The reset input, the one way out of the fault state (R226, R250): every element of R20 at its value in R54. A transaction
in flight is abandoned, its answer may still come and will be discarded, and what the device made of it is not known (R251,
U8). The host, the byte stream and the parameters are outside the block and stay. -/
def resetBlock (s : State) : State :=
  { State.reset with
    sent := s.sent
    abandoned := s.abandoned ++ (pendingRequest s).toList
    channel := if (pendingRequest s).isSome then none else s.channel
    program := s.program
    reads := s.reads
    stopped := s.stopped
    run := s.run
    inputs := s.inputs
    params := s.params }

end Sys2Proof.Machine
end

