-- ==== Sys2Proof/Machine/Operands.lean ====
section
/-! DEFINITION. Operand assembly (R90) and the views of the register window that are not storage: TRIPLET, EXPHDR, ACTHDR,
PLEN (R38 to R44) and the words of the buffer windows (R48 to R50). -/

namespace Sys2Proof.Machine

open Sys2Proof.Config

/-! ### Operands -/

/-- The extraction length min(ELEN, 62), ELEN unsigned (R90(1), R121). -/
def extractLength (s : State) : Nat := min s.elen.toNat payloadMax

/-- Byte i of PAYLOAD. -/
def payloadByte (s : State) (i : Nat) : Byte := Memory.read s.payload i

/-- The 16-bit raw value PAYLOAD[0] | PAYLOAD[1] << 8, zero-extended (R67, R90(3), R142). -/
def payloadRaw16 (s : State) : Word := wordOfBytes (payloadByte s 0) (payloadByte s 1) 0x00 0x00

/-- The 32-bit raw value of PAYLOAD[0..3], little-endian (R67, R90(3), R143). -/
def payloadRaw32 (s : State) : Word :=
  wordOfBytes (payloadByte s 0) (payloadByte s 1) (payloadByte s 2) (payloadByte s 3)

/-- The linear-float16 operand RAW[15:0] (R147). -/
def rawHalf (s : State) : Half := s.raw.extractLsb' 0 16

/-! ### Views -/

/-- TRIPLET as the host reads it (R38). -/
def tripletWord (s : State) : Word := wordOfBytes s.cmd s.reg s.sub 0x00

/-- LEN as the host reads it (R39). -/
def lenWord (s : State) : Word := s.len.setWidth 32

/-- EXPHDR: TXB[1..3] (R42). -/
def expHdrWord (s : State) : Word :=
  wordOfBytes (Memory.read s.txb 1) (Memory.read s.txb 2) (Memory.read s.txb 3) 0x00

/-- ACTHDR: RXB[0..1] (R43). -/
def actHdrWord (s : State) : Word := wordOfBytes (Memory.read s.rxb 0) (Memory.read s.rxb 1) 0x00 0x00

/-- The PLEN register: ELEN [15:8], PLEN [5:0] (R44). -/
def plenWord (s : State) : Word := (0 : BitVec 16) ++ s.elen ++ (0 : BitVec 2) ++ s.plen

/-- FRES_LO (R46). -/
def fresLo (s : State) : Word := s.fres.extractLsb' 0 32

/-- FRES_HI (R46). -/
def fresHi (s : State) : Word := s.fres.extractLsb' 32 32

/-- The word of a buffer window that starts at byte `i`, lowest byte in the lowest lane, 0x00 past the buffer's end
(R48 to R50, R63). -/
def bufferWord (size : Nat) (m : Memory) (i : Nat) : Word :=
  wordOfBytes (Memory.byteAt size m i) (Memory.byteAt size m (i + 1)) (Memory.byteAt size m (i + 2))
    (Memory.byteAt size m (i + 3))

end Sys2Proof.Machine
end

