-- ==== Sys2Proof/Machine/Framer.lean ====
section
/-! DEFINITION. The framer/validator: TRANSACT issue (R111 to R113), the Transport's write answer (R114 to R116), its read
answer (R117 to R119), validation (R120) and extraction (R121), and the answers it cannot give (R122). -/

namespace Sys2Proof.Machine

open Sys2Proof.Config

/-- `CmdReport(c, r, s) = [0x00, c, r, s] ++ [0x00] * 61` (R86). -/
def cmdReport (c r s : Byte) : List Byte := [reportId, c, r, s] ++ List.replicate 61 0x00

/-! ### Issue -/

/-- A select command on its way makes the device's channel unknown until its echo is good (R189; log entry 6). -/
def channelAtIssue (s : State) : Option Channel := if s.cmd = 0x02 then none else s.channel

/-- TRANSACT issue in IDLE (R111): frame the report, latch LEN, clear the last results, enter TX and hand the report to the
Transport. -/
def issueReport (s : State) : State :=
  { s with
    txb := Memory.ofBytes (cmdReport s.cmd s.reg s.sub)
    elen := s.len
    rxb := Memory.cleared
    payload := Memory.cleared
    plen := 0
    pvalid := false
    xfail := false
    txcnt := 0
    rxcnt := 0
    phase := .tx
    sent := s.sent ++ [Memory.bytes txLen (Memory.ofBytes (cmdReport s.cmd s.reg s.sub))]
    channel := channelAtIssue s }

/-- TRANSACT by phase: issued in IDLE (R111), refused while busy (R112), dropped in FAULT (R113). -/
def transactOp (s : State) : Host.Outcome State Fault Refusal :=
  match s.phase with
  | .idle => .next (issueReport s)
  | .tx => .refused .transactWhileBusy
  | .rx => .refused .transactWhileBusy
  | .fault => .next s

/-- TRANSACT, CTRL OP 0x1 (R111 to R113). -/
def execTransact (s : State) : Host.Outcome State Fault Refusal := transactOp s

/-! ### The write answer -/

/-- TXCNT and XFAIL after a write answer. -/
def recordWrite (n : Nat) (failed : Bool) (s : State) : State :=
  { s with txcnt := BitVec.ofNat 8 n, xfail := failed }

/-- Full write: `Accepted(65)` (R114). -/
def acceptReport (s : State) : State := { s with txcnt := BitVec.ofNat 8 txLen, phase := .rx }

/-- Short write: `Accepted(n)`, n <= 64 (R115). The device's framing state is then undefined (U1). XFAIL stays as it is. -/
def shortWrite (n : Nat) (s : State) : State :=
  raiseFault .transportWriteShortOrFailed (forgetChannel (recordWrite n s.xfail s))

/-- Failed write: `Fail` in TX (R116). -/
def failedWrite (s : State) : State :=
  raiseFault .transportWriteShortOrFailed (forgetChannel (recordWrite 0 true s))

/-- The write answer (R114 to R116), or an answer the Transport cannot give in TX (R122). -/
def writeAnswer (a : Answer) (s : State) : Host.Outcome State Fault Refusal :=
  match a with
  | .accepted n =>
    if n = txLen then .next (acceptReport s)
    else if n < txLen then .next (shortWrite n s)
    else .refused (.impossibleAnswer (.accepted n))
  | .data b => .refused (.impossibleAnswer (.data b))
  | .fail => .next (failedWrite s)

/-! ### The read answer -/

/-- RXCNT and XFAIL after a failed read. -/
def recordFailedRead (s : State) : State := { s with rxcnt := 0, xfail := true }

/-- `RXB[i] <- b[i]` and `RXCNT <- len(b)` (R118, R119). -/
def storeResponse (b : List Byte) (s : State) : State :=
  { s with rxb := Memory.writeBytes s.rxb 0 b, rxcnt := BitVec.ofNat 8 b.length }

/-- Failed read: `Fail` in RX (R117). -/
def failedRead (s : State) : State := raiseFault .transportReadShortOrFailed (recordFailedRead s)

/-- Short read: `Data(b)`, len(b) <= 63; the header is not looked at (R118, R223). -/
def shortRead (b : List Byte) (s : State) : State := raiseFault .transportReadShortOrFailed (storeResponse b s)

/-- Validation compares the command and register bytes alone (R120, R124). -/
def headerMatches (s : State) : Bool :=
  Memory.read s.rxb 0 == Memory.read s.txb 1 && Memory.read s.rxb 1 == Memory.read s.txb 2

/-- The device's channel after a good echo: the select's channel, where the report was a select of channel 0, 1 or 2 (R186
to R189; log entry 6). -/
def channelAtEcho (s : State) : Option Channel :=
  if Memory.read s.txb 1 = 0x02 ∧ Memory.read s.txb 2 = 0x00 then
    if h : (Memory.read s.txb 3).toNat < channels then some ⟨(Memory.read s.txb 3).toNat, h⟩ else s.channel
  else s.channel

/-- The response bytes a good transaction keeps: RXB[2 .. 2 + min(ELEN, 62)) (R121). -/
def keptBytes (s : State) : List Byte := ((Memory.bytes rxLen s.rxb).drop hdrLen).take (extractLength s)

/-- Header match: extraction (R121). -/
def extractPayload (s : State) : State :=
  { s with
    plen := BitVec.ofNat 6 (extractLength s)
    payload := Memory.writeBytes s.payload 0 (keptBytes s)
    pvalid := true
    phase := .idle
    channel := channelAtEcho s }

/-- Header mismatch: no payload (R120). -/
def mismatch (s : State) : State := raiseFault .protocolMismatch s

/-- Validation, then extraction or the mismatch fault, in the step that stored the response (R119). -/
def validate (s : State) : State := if headerMatches s then extractPayload s else mismatch s

/-- Full read: `Data(b)`, len(b) = 64 (R119 to R121). -/
def fullRead (b : List Byte) (s : State) : State := validate (storeResponse b s)

/-- The read answer (R117 to R119), or an answer the Transport cannot give in RX (R122). -/
def readAnswer (a : Answer) (s : State) : Host.Outcome State Fault Refusal :=
  match a with
  | .accepted n => .refused (.impossibleAnswer (.accepted n))
  | .data b =>
    if b.length = rxLen then .next (fullRead b s)
    else if b.length < rxLen then .next (shortRead b s)
    else .refused (.impossibleAnswer (.data b))
  | .fail => .next (failedRead s)

/-! ### Any answer -/

/-- The Transport answers the pending request; with none pending it has no such step (R53, R122). -/
def transportAnswer (a : Answer) (s : State) : Host.Outcome State Fault Refusal :=
  match s.phase with
  | .idle => .refused (.impossibleAnswer a)
  | .tx => writeAnswer a s
  | .rx => readAnswer a s
  | .fault => .refused (.impossibleAnswer a)

/-- Whether an answer is one R122 allows to a request. -/
def admissible : Request → Answer → Bool
  | .write, .accepted n => n ≤ txLen
  | .write, .data _ => false
  | .write, .fail => true
  | .read, .accepted _ => false
  | .read, .data b => b.length ≤ rxLen
  | .read, .fail => true

/-- Strike the first abandoned request an answer fits; none where it fits none. -/
def strikeAbandoned (a : Answer) : List Request → Option (List Request)
  | [] => none
  | r :: rs => if admissible r a then some rs else (strikeAbandoned a rs).map (r :: ·)

/-- An answer to a request a reset abandoned is discarded: the block takes no step for it (R251, R122). Where no abandoned
request fits, the Transport has no such step. -/
def lateAnswer (a : Answer) (s : State) : Host.Outcome State Fault Refusal :=
  match strikeAbandoned a s.abandoned with
  | some rs => .next { s with abandoned := rs }
  | none => .refused (.impossibleAnswer a)

end Sys2Proof.Machine
end

