-- ==== Sys2Proof/Machine/Window.lean ====
section
/-! DEFINITION. The host's register window (R37 to R51, R60 to R66): which accesses it maps, what a read returns and what a
write to anything but CTRL does. -/

namespace Sys2Proof.Machine

open Sys2Proof.Config

/-! ### Offsets (R37) -/

/-- Bytes in the window: offsets 0x000 to 0x1FF. -/
def windowSize : Nat := 0x200

abbrev offTriplet : Nat := 0x000
abbrev offLen : Nat := 0x004
abbrev offCtrl : Nat := 0x008
abbrev offStatus : Nat := 0x00C
abbrev offExpHdr : Nat := 0x010
abbrev offActHdr : Nat := 0x014
abbrev offPlen : Nat := 0x018
abbrev offRaw : Nat := 0x01C
abbrev offFresLo : Nat := 0x020
abbrev offFresHi : Nat := 0x024
abbrev offUres : Nat := 0x028
/-- First word of the TXB window. -/
abbrev offTxb : Nat := 0x100
/-- First word of the RXB window. -/
abbrev offRxb : Nat := 0x180
/-- First word of the PAYLOAD window. -/
abbrev offPayload : Nat := 0x1C0

/-- The host address of a window offset (R37, R70; log entry 17). -/
def hostAddress (off : Nat) : Nat := windowBase + off

/-- The window offset of a host address; none outside the window. -/
def windowOffset (addr : Nat) : Option Nat :=
  if windowBase ≤ addr ∧ addr < windowBase + windowSize then some (addr - windowBase) else none

/-! ### Which accesses have a meaning -/

/-- The aligned offsets that are mapped: all but 0x02C..0x0FC, 0x144..0x17C and 0x200 up (R64). -/
def mapped (off : Nat) : Bool :=
  off ≤ 0x028 || (0x100 ≤ off && off ≤ 0x140) || (0x180 ≤ off && off ≤ 0x1FC)

/-- Why an access is refused, if it is: narrow (R61), misaligned (R62), unmapped (R64); the first that applies (log
entry 10). -/
def accessRefusal (w : Width) (off : Nat) : Option Refusal :=
  if w ≠ .word then some (.narrowAccess w off)
  else if off % 4 ≠ 0 then some (.misaligned off)
  else if !mapped off then some (.unmapped off)
  else none

/-! ### Reads and writes -/

/-- What a 32-bit read of a mapped, aligned offset returns (R37 to R50; CTRL reads 0, R40). -/
def windowRead (s : State) (off : Nat) : Word :=
  if off = offTriplet then tripletWord s
  else if off = offLen then lenWord s
  else if off = offCtrl then 0x00000000
  else if off = offStatus then statusWord s
  else if off = offExpHdr then expHdrWord s
  else if off = offActHdr then actHdrWord s
  else if off = offPlen then plenWord s
  else if off = offRaw then s.raw
  else if off = offFresLo then fresLo s
  else if off = offFresHi then fresHi s
  else if off = offUres then s.ures
  else if off < offRxb then bufferWord txLen s.txb (off - offTxb)
  else if off < offPayload then bufferWord rxLen s.rxb (off - offRxb)
  else bufferWord payloadMax s.payload (off - offPayload)

/-- What a 32-bit write of a mapped, aligned offset other than CTRL does: TRIPLET, LEN and RAW are written, every other
place ignores it (R51, R65, R66). -/
def windowWrite (off : Nat) (v : Word) (s : State) : State :=
  if off = offTriplet then writeTriplet v s
  else if off = offLen then writeLen v s
  else if off = offRaw then writeRaw v s
  else s

/-- `name <- HostRead(off)`: no side effect on the block (R66); the host keeps the value. -/
def hostRead (w : Width) (off : Nat) (s : State) : Host.Outcome State Fault Refusal :=
  match accessRefusal w off with
  | some r => .refused r
  | none => .next (logRead off (windowRead s off) s)

end Sys2Proof.Machine
end

