-- ==== Sys2Proof/Machine/HostProgram.lean ====
section
/-! DEFINITION. The host's assembly syntax (R92): `op`, `xact` and the decode pipelines (R171) as lists of host actions. -/

namespace Sys2Proof.Machine

/-- OPVAL: the CTRL word of an operation (R82, R92). -/
def opWord (i : Instr) : Word :=
  match encode i with
  | [b0, b1, b2, b3] => wordOfBytes b0 b1 b2 b3
  | _ => 0x00000000

/-- `sw OFF, VAL` (R92). -/
def sw (off : Nat) (v : Word) : HostAction := .write .word off v

/-- `lw OFF -> name` (R92). -/
def lw (off : Nat) : HostAction := .read .word off

/-- `op MNEMONIC`: one CTRL write (R92, R93). -/
def op (i : Instr) : HostAction := sw offCtrl (opWord i)

/-- The three writes that start `xact T, L` (R92). -/
def xactWrites (t l : Word) : List HostAction := [sw offTriplet t, sw offLen l, op .transact]

/-- `xact T, L`: the three writes, then `wait` and `check` (R92). -/
def xact (t l : Word) : List HostAction := xactWrites t l ++ [.wait, .check]

/-- The sixteen reads of the PAYLOAD window, 0x1C0 .. 0x1FC (R208). -/
def readPayloadWindow : List HostAction := (List.range 16).map fun k => lw (offPayload + 4 * k)

/-- The decode pipeline a host runs after a good transaction (R171, R208); a channel select has none. -/
def decodePipeline : Option DecodeKind → List HostAction
  | some .linearFloat16 => [op .loadRaw16, op .decLf16, lw offFresLo, lw offFresHi]
  | some .unsigned32 => [op .loadRaw32, op .decU32, lw offUres]
  | some .rawString => readPayloadWindow
  | none => []

/-- What the host does after the TRANSACT write: `wait`, `check`, the pipeline (R208). -/
def afterIssue (k : Option DecodeKind) : List HostAction := .wait :: .check :: decodePipeline k

end Sys2Proof.Machine
end

