-- ==== Sys2Proof/Machine/Commands.lean ====
section
/-! DEFINITION. The wire command set (R170 to R192): one descriptor and one meaning a row. The block frames every triplet the
same way; a row fixes the triplet, the LEN and the decode pipeline of the host procedure of R208. What the device answers is
an input of the machine, not part of a meaning (R172, R189). -/

namespace Sys2Proof.Machine

/-- A register descriptor (R170): the opcode triplet, LEN, and the decode kind, which a channel select does not have. -/
structure Descriptor where
  command : Byte
  register : Byte
  subIndex : Byte
  len : Byte
  kind : Option DecodeKind
  deriving DecidableEq, Repr

/-- The word a host writes to TRIPLET (R38, R85). -/
def Descriptor.word (d : Descriptor) : Word := wordOfBytes d.command d.register d.subIndex 0x00

/-- The word a host writes to LEN (R39). -/
def Descriptor.lenWord (d : Descriptor) : Word := d.len.setWidth 32

/-- The host's side of one wire command (R208): the writes of TRIPLET and LEN and `op TRANSACT`, each with its effect in
every phase, in this step; `wait`, `check` and the pipeline become the host's next actions (log entry 3). -/
def runCommand (d : Descriptor) (s : State) : Host.Outcome State Fault Refusal :=
  match transactOp (writeLen d.lenWord (writeTriplet d.word s)) with
  | .next t => .next (setProgram (afterIssue d.kind ++ t.program) t)
  | .fault f => .fault f
  | .refused r => .refused r

/-! ### Descriptors -/

/-- READ_VIN: input voltage (R173). -/
def Descriptor.readVin : Descriptor :=
  { command := 0x03, register := 0x88, subIndex := 0x00, len := 2, kind := some .linearFloat16 }

/-- READ_VOUT: output voltage of the selected channel (R174, R189). -/
def Descriptor.readVout : Descriptor :=
  { command := 0x03, register := 0x8B, subIndex := 0x00, len := 2, kind := some .linearFloat16 }

/-- READ_IOUT: output current of the selected channel (R175, R189). -/
def Descriptor.readIout : Descriptor :=
  { command := 0x03, register := 0x8C, subIndex := 0x00, len := 2, kind := some .linearFloat16 }

/-- READ_TEMP1: first temperature (R176). -/
def Descriptor.readTemp1 : Descriptor :=
  { command := 0x03, register := 0x8D, subIndex := 0x00, len := 2, kind := some .linearFloat16 }

/-- READ_TEMP2: second temperature (R177). -/
def Descriptor.readTemp2 : Descriptor :=
  { command := 0x03, register := 0x8E, subIndex := 0x00, len := 2, kind := some .linearFloat16 }

/-- READ_FAN: fan speed (R178). -/
def Descriptor.readFan : Descriptor :=
  { command := 0x03, register := 0x90, subIndex := 0x00, len := 2, kind := some .linearFloat16 }

/-- READ_POUT: output power of the selected channel (R179, R189). -/
def Descriptor.readPout : Descriptor :=
  { command := 0x03, register := 0x96, subIndex := 0x00, len := 2, kind := some .linearFloat16 }

/-- READ_VENDOR: vendor string (R180). -/
def Descriptor.readVendor (p : Params) : Descriptor :=
  { command := 0x03, register := 0x99, subIndex := 0x00, len := p.stringLen, kind := some .rawString }

/-- READ_PRODUCT: product string (R181). -/
def Descriptor.readProduct (p : Params) : Descriptor :=
  { command := 0x03, register := 0x9A, subIndex := 0x00, len := p.stringLen, kind := some .rawString }

/-- READ_POWERED: powered time in seconds (R182). -/
def Descriptor.readPowered : Descriptor :=
  { command := 0x03, register := 0xD1, subIndex := 0x00, len := 4, kind := some .unsigned32 }

/-- READ_UPTIME: uptime in seconds (R183). -/
def Descriptor.readUptime : Descriptor :=
  { command := 0x03, register := 0xD2, subIndex := 0x00, len := 4, kind := some .unsigned32 }

/-- READ_PTOTAL: total power (R184). -/
def Descriptor.readPtotal : Descriptor :=
  { command := 0x03, register := 0xEE, subIndex := 0x00, len := 2, kind := some .linearFloat16 }

/-- READ_NAME: device name; the sub-index is NAME_SUBIDX (R185). -/
def Descriptor.readName (sub : Byte) (p : Params) : Descriptor :=
  { command := 0xFE, register := 0x03, subIndex := sub, len := p.stringLen, kind := some .rawString }

/-- SELECT_CH0: select output channel 0 (R186). -/
def Descriptor.selectCh0 (p : Params) : Descriptor :=
  { command := 0x02, register := 0x00, subIndex := 0x00, len := p.selectLen, kind := none }

/-- SELECT_CH1: select output channel 1 (R187). -/
def Descriptor.selectCh1 (p : Params) : Descriptor :=
  { command := 0x02, register := 0x00, subIndex := 0x01, len := p.selectLen, kind := none }

/-- SELECT_CH2: select output channel 2 (R188). -/
def Descriptor.selectCh2 (p : Params) : Descriptor :=
  { command := 0x02, register := 0x00, subIndex := 0x02, len := p.selectLen, kind := none }

/-! ### Meanings -/

/-- READ_VIN (R173). -/
def execReadVin (s : State) : Host.Outcome State Fault Refusal := runCommand Descriptor.readVin s

/-- READ_VOUT (R174). -/
def execReadVout (s : State) : Host.Outcome State Fault Refusal := runCommand Descriptor.readVout s

/-- READ_IOUT (R175). -/
def execReadIout (s : State) : Host.Outcome State Fault Refusal := runCommand Descriptor.readIout s

/-- READ_TEMP1 (R176). -/
def execReadTemp1 (s : State) : Host.Outcome State Fault Refusal := runCommand Descriptor.readTemp1 s

/-- READ_TEMP2 (R177). -/
def execReadTemp2 (s : State) : Host.Outcome State Fault Refusal := runCommand Descriptor.readTemp2 s

/-- READ_FAN (R178). -/
def execReadFan (s : State) : Host.Outcome State Fault Refusal := runCommand Descriptor.readFan s

/-- READ_POUT (R179). -/
def execReadPout (s : State) : Host.Outcome State Fault Refusal := runCommand Descriptor.readPout s

/-- READ_VENDOR (R180). -/
def execReadVendor (s : State) : Host.Outcome State Fault Refusal := runCommand (Descriptor.readVendor s.params) s

/-- READ_PRODUCT (R181). -/
def execReadProduct (s : State) : Host.Outcome State Fault Refusal := runCommand (Descriptor.readProduct s.params) s

/-- READ_POWERED (R182). -/
def execReadPowered (s : State) : Host.Outcome State Fault Refusal := runCommand Descriptor.readPowered s

/-- READ_UPTIME (R183). -/
def execReadUptime (s : State) : Host.Outcome State Fault Refusal := runCommand Descriptor.readUptime s

/-- READ_PTOTAL (R184). -/
def execReadPtotal (s : State) : Host.Outcome State Fault Refusal := runCommand Descriptor.readPtotal s

/-- READ_NAME (R185). -/
def execReadName (sub : Byte) (s : State) : Host.Outcome State Fault Refusal := runCommand (Descriptor.readName sub s.params) s

/-- SELECT_CH0 (R186). -/
def execSelectCh0 (s : State) : Host.Outcome State Fault Refusal := runCommand (Descriptor.selectCh0 s.params) s

/-- SELECT_CH1 (R187). -/
def execSelectCh1 (s : State) : Host.Outcome State Fault Refusal := runCommand (Descriptor.selectCh1 s.params) s

/-- SELECT_CH2 (R188). -/
def execSelectCh2 (s : State) : Host.Outcome State Fault Refusal := runCommand (Descriptor.selectCh2 s.params) s

/-- A triplet outside the table in command position: framed and sent like any other (R89), with LEN as the host last wrote it
(R254) and no decode (R192; log entry 11). -/
def runUnlisted (t : Triplet) (s : State) : Host.Outcome State Fault Refusal :=
  runCommand
    { command := t.extractLsb' 0 8, register := t.extractLsb' 8 8, subIndex := t.extractLsb' 16 8, len := s.len, kind := none }
    s

/-! ### The table of descriptors, and the device assumption -/

/-- The descriptor of each wire command; the CTRL operations have none (R170). -/
def descriptorOf (p : Params) : Instr → Option Descriptor
  | .nop => none
  | .transact => none
  | .decLf16 => none
  | .decU32 => none
  | .loadRaw16 => none
  | .loadRaw32 => none
  | .readVin => some Descriptor.readVin
  | .readVout => some Descriptor.readVout
  | .readIout => some Descriptor.readIout
  | .readTemp1 => some Descriptor.readTemp1
  | .readTemp2 => some Descriptor.readTemp2
  | .readFan => some Descriptor.readFan
  | .readPout => some Descriptor.readPout
  | .readVendor => some (Descriptor.readVendor p)
  | .readProduct => some (Descriptor.readProduct p)
  | .readPowered => some Descriptor.readPowered
  | .readUptime => some Descriptor.readUptime
  | .readPtotal => some Descriptor.readPtotal
  | .readName sub => some (Descriptor.readName sub p)
  | .selectCh0 => some (Descriptor.selectCh0 p)
  | .selectCh1 => some (Descriptor.selectCh1 p)
  | .selectCh2 => some (Descriptor.selectCh2 p)

/-- Whether the report last framed was one of the per-channel reads VOUT, IOUT, POUT (R174, R175, R179, R189). -/
def perChannelRead (s : State) : Bool :=
  Memory.read s.txb 1 == 0x03 && Memory.read s.txb 3 == 0x00
    && (Memory.read s.txb 2 == 0x8B || Memory.read s.txb 2 == 0x8C || Memory.read s.txb 2 == 0x96)

/-- The channel the reading now in PAYLOAD belongs to, under the device assumption of R189; none where there is no valid
per-channel reading or the device's channel is not known. -/
def readingChannel (s : State) : Option Channel :=
  if s.pvalid && perChannelRead s then s.channel else none

end Sys2Proof.Machine
end

