-- ==== Sys2Proof/Machine/Decoder.lean ====
section
/-! DEFINITION. NOP, the payload loaders and the numeric decoder (R140 to R152): each writes at most one result register, in
every PHASE, within the CTRL write that issues it (R151, R257). -/

namespace Sys2Proof.Machine

/-! ### linear-float16 -/

/-- The exponent p = sint(w[15:11]) (R144). -/
def lf16Exponent (w : Half) : Int := (w.extractLsb' 11 5).toInt

/-- The mantissa v = sint(w[10:0]) (R144). -/
def lf16Mantissa (w : Half) : Int := (w.extractLsb' 0 11).toInt

/-- `F64`: the binary64 pattern of v * 2^p (R146): sign, biased exponent, fraction; +0.0 for v = 0 (log entry 15). -/
def binary64 (v p : Int) : DWord :=
  if v = 0 then 0x0000000000000000
  else
    let sign : Nat := if v < 0 then 1 else 0
    let m := v.natAbs
    let k := Nat.log2 m
    let e := (k + p + 1023).toNat
    let f := (m - 2 ^ k) * 2 ^ (52 - k)
    BitVec.ofNat 64 (sign <<< 63 ||| e <<< 52 ||| f)

/-- The pattern DEC_LF16 writes for a raw word (R144 to R147). -/
def lf16Pattern (w : Half) : DWord := binary64 (lf16Mantissa w) (lf16Exponent w)

/-- `enc(v, p) = ((p mod 32) << 11) | (v mod 2048)`, the raw word of a mantissa and an exponent (R150(c)). -/
def lf16Encode (v p : Int) : Half := BitVec.ofNat 16 ((p % 32).toNat <<< 11 ||| (v % 2048).toNat)

/-! ### The operations -/

/-- NOP (R141). -/
def execNop (s : State) : Host.Outcome State Fault Refusal := .next s

/-- LOAD_RAW16: RAW <- zext_32 of PAYLOAD[1], PAYLOAD[0] (R142). -/
def execLoadRaw16 (s : State) : Host.Outcome State Fault Refusal := .next (writeRaw (payloadRaw16 s) s)

/-- LOAD_RAW32: RAW <- PAYLOAD[3..0] (R143). -/
def execLoadRaw32 (s : State) : Host.Outcome State Fault Refusal := .next (writeRaw (payloadRaw32 s) s)

/-- DEC_LF16: FRES <- F64(RAW[15:0]) (R147). -/
def execDecLf16 (s : State) : Host.Outcome State Fault Refusal := .next (writeFres (lf16Pattern (rawHalf s)) s)

/-- DEC_U32: URES <- RAW (R148). -/
def execDecU32 (s : State) : Host.Outcome State Fault Refusal := .next (writeUres s.raw s)

/-! ### What a consumer does with a result (no block operation) -/

/-- Whole days of a duration: s div 86400 (R149). -/
def durationDays (u : Word) : Nat := u.toNat / 86400

/-- Hours past the whole days: (s div 3600) mod 24 (R149). -/
def durationHours (u : Word) : Nat := u.toNat / 3600 % 24

end Sys2Proof.Machine
end

