-- ==== Sys2Proof/Machine/Dispatch.lean ====
section
/-! DEFINITION. One arm for each constructor of Instr: the call of its meaning. -/

namespace Sys2Proof.Machine

def exec (i : Instr) (s : State) : Host.Outcome State Fault Refusal :=
  match i with
  | .nop => Sys2Proof.Machine.execNop s
  | .transact => Sys2Proof.Machine.execTransact s
  | .decLf16 => Sys2Proof.Machine.execDecLf16 s
  | .decU32 => Sys2Proof.Machine.execDecU32 s
  | .loadRaw16 => Sys2Proof.Machine.execLoadRaw16 s
  | .loadRaw32 => Sys2Proof.Machine.execLoadRaw32 s
  | .readVin => Sys2Proof.Machine.execReadVin s
  | .readVout => Sys2Proof.Machine.execReadVout s
  | .readIout => Sys2Proof.Machine.execReadIout s
  | .readTemp1 => Sys2Proof.Machine.execReadTemp1 s
  | .readTemp2 => Sys2Proof.Machine.execReadTemp2 s
  | .readFan => Sys2Proof.Machine.execReadFan s
  | .readPout => Sys2Proof.Machine.execReadPout s
  | .readVendor => Sys2Proof.Machine.execReadVendor s
  | .readProduct => Sys2Proof.Machine.execReadProduct s
  | .readPowered => Sys2Proof.Machine.execReadPowered s
  | .readUptime => Sys2Proof.Machine.execReadUptime s
  | .readPtotal => Sys2Proof.Machine.execReadPtotal s
  | .readName sub => Sys2Proof.Machine.execReadName sub s
  | .selectCh0 => Sys2Proof.Machine.execSelectCh0 s
  | .selectCh1 => Sys2Proof.Machine.execSelectCh1 s
  | .selectCh2 => Sys2Proof.Machine.execSelectCh2 s

end Sys2Proof.Machine
end

