-- ==== Sys2Proof/Machine/Snapshot.lean ====
section
/-! DEFINITION. The reference host program (R200 to R208): its 23 rows in order, the procedure of each, the call of
`read_snapshot`, the record it yields and the program states the source names. -/

namespace Sys2Proof.Machine

/-- The channel rows of step 4 after the select: voltage, current, watts (R201). -/
def channelRows : List Instr := [.readVout, .readIout, .readPout]

/-- The transactions of a snapshot, in order (R201). -/
def snapshotRows (p : Params) : List Instr :=
  [.readName p.nameSubidx, .readVendor, .readProduct]
    ++ [.readPowered, .readUptime]
    ++ [.readTemp1, .readTemp2, .readFan, .readVin, .readPtotal]
    ++ .selectCh0 :: channelRows
    ++ .selectCh1 :: channelRows
    ++ .selectCh2 :: channelRows
    ++ [.selectCh0]

/-- The per-transaction host procedure of a descriptor, access by access (R208). -/
def Descriptor.procedure (d : Descriptor) : List HostAction := xactWrites d.word d.lenWord ++ afterIssue d.kind

/-- The triplet word T of a descriptor (R85). -/
def Descriptor.triplet (d : Descriptor) : Triplet := d.subIndex ++ d.register ++ d.command

/-- The procedure of a row and the host's check at its end (R205); a CTRL operation is no row. -/
def rowProcedure (p : Params) (i : Instr) : List HostAction :=
  match descriptorOf p i with
  | some d => d.procedure ++ [.endRow d.triplet d.len]
  | none => []

/-- The reference program (R201, R208). -/
def snapshotProgram (p : Params) : List HostAction := (snapshotRows p).flatMap (rowProcedure p)

/-! ### The record (R204) -/

/-- The text of a raw-string payload: the bytes before the first 0x00, or all of them (R171, R191). -/
def stringText (bs : List Byte) : List Byte := bs.takeWhile (· != 0x00)

/-- The text in the sixteen words of the PAYLOAD window: its 62 bytes, lowest lane first (R50, R208). -/
def takeString (vs : List Word) : Option (List Byte × List Word) :=
  if vs.length < 16 then none
  else some (stringText (((vs.take 16).flatMap wordBytes).take Config.payloadMax), vs.drop 16)

/-- The value read from URES (R171). -/
def takeWord : List Word → Option (Word × List Word)
  | u :: vs => some (u, vs)
  | [] => none

/-- The pattern read from FRES_LO and FRES_HI (R171). -/
def takeFloat : List Word → Option (DWord × List Word)
  | lo :: hi :: vs => some (hi ++ lo, vs)
  | _ => none

/-- Voltage, current and watts of one channel. -/
def takeChannel (vs : List Word) : Option (ChannelReading × List Word) := do
  let (v, vs) ← takeFloat vs
  let (c, vs) ← takeFloat vs
  let (w, vs) ← takeFloat vs
  pure ({ voltage := v, current := c, watts := w }, vs)

/-- The record from the values the program read, in order; none unless they are exactly those of a complete run (R202). -/
def assembleSnapshot (vs : List Word) : Option Snapshot := do
  let (name, vs) ← takeString vs
  let (vendor, vs) ← takeString vs
  let (product, vs) ← takeString vs
  let (powered, vs) ← takeWord vs
  let (uptime, vs) ← takeWord vs
  let (t1, vs) ← takeFloat vs
  let (t2, vs) ← takeFloat vs
  let (fan, vs) ← takeFloat vs
  let (vin, vs) ← takeFloat vs
  let (total, vs) ← takeFloat vs
  let (c0, vs) ← takeChannel vs
  let (c1, vs) ← takeChannel vs
  let (c2, vs) ← takeChannel vs
  if vs = [] then
    pure { deviceName := name, vendor := vendor, product := product, poweredSeconds := powered, uptimeSeconds := uptime,
           temp1 := t1, temp2 := t2, fanRpm := fan, inputVoltage := vin, totalWatts := total,
           channel0 := c0, channel1 := c1, channel2 := c2 }
  else none

/-! ### The call (R200) -/

/-- `read_snapshot`: the reference program, then its return, before whatever the host does next; the sequencer starts afresh
(R200, R204). -/
def startSnapshot (s : State) : State :=
  setRun (some { sentBefore := s.sent.length, readsBefore := s.reads.length, rows := 0, outcome := .running })
    (setProgram (snapshotProgram s.params ++ .returnSnapshot :: s.program) s)

/-- The triplet TXB holds, as EXPHDR shows it (R42). -/
def framedTriplet (s : State) : Triplet := Memory.read s.txb 3 ++ Memory.read s.txb 2 ++ Memory.read s.txb 1

/-- What a consumer checks of a row at its end (R205, R256): IDLE with PVALID, and the report and the length are the row's. So
the row's own transaction completed with a good echo, and the block was not reset since. -/
def rowGood (t : Triplet) (len : Byte) (s : State) : Bool :=
  s.phase == .idle && s.pvalid && framedTriplet s == t && s.elen == len

/-- The end of a row: a good row counts; at any other the attempt aborts, the rest of the host's program with it (R205; log
entry 19). Outside a call there is nothing to check. -/
def endSnapshotRow (t : Triplet) (len : Byte) (s : State) : State :=
  match s.run with
  | none => s
  | some r =>
    if r.outcome = .running then
      if rowGood t len s then setRun (some { r with rows := r.rows + 1 }) s
      else setRun (endRun .lost s.run) (setProgram [] s)
    else s

/-- The values read since the call. -/
def runValues (r : SnapshotRun) (s : State) : List Word := (s.reads.drop r.readsBefore).map (·.2)

/-- What a call returns with: the record, where every row was good (R200 (a), R203, R205). -/
def snapshotResult (r : SnapshotRun) (s : State) : SnapshotOutcome :=
  if r.rows = (snapshotRows s.params).length then
    match assembleSnapshot (runValues r s) with
    | some record => .complete record
    | none => .lost
  else .lost

/-- The return of `read_snapshot`. A call that has ended keeps its record (R204). -/
def endSnapshot (s : State) : State :=
  match s.run with
  | none => s
  | some r => setRun (endRun (snapshotResult r s) s.run) s

/-- The snapshot the host holds from the last call: none where it was aborted or has not returned (R200, R202, R205). -/
def snapshotOf (s : State) : Option Snapshot :=
  match s.run with
  | none => none
  | some r =>
    match r.outcome with
    | .running => none
    | .complete record => some record
    | .failed _ => none
    | .lost => none

/-! ### Program states (R207) -/

/-- The states of the source's sequencer, host states all. -/
inductive SnapshotState where
  | idle
  | readingIdentity
  | readingDurations
  | readingScalars
  | selectingChannel (n : Nat)
  | readingChannel (n : Nat)
  | done
  | aborted
  deriving DecidableEq, Repr

/-- The state in which the k-th transaction of R201 runs, counted from 1; 0 is before the first. R207 names no state for the
restore select, transaction 23, between ReadingChannel(2) and Done: SelectingChannel(0) is the model's choice (log entry
19). -/
def stateOfRow (k : Nat) : SnapshotState :=
  if k = 0 then .idle
  else if k ≤ 3 then .readingIdentity
  else if k ≤ 5 then .readingDurations
  else if k ≤ 10 then .readingScalars
  else if k ≥ 23 then .selectingChannel 0
  else if (k - 11) % 4 = 0 then .selectingChannel ((k - 11) / 4)
  else .readingChannel ((k - 11) / 4)

/-- Where the last call of `read_snapshot` stands, told by the reports sent since the call while it runs (R207; log entry
19). -/
def snapshotState (s : State) : SnapshotState :=
  match s.run with
  | none => .idle
  | some r =>
    match r.outcome with
    | .running => stateOfRow (s.sent.length - r.sentBefore)
    | .complete _ => .done
    | .failed _ => .aborted
    | .lost => .aborted

end Sys2Proof.Machine
end

