-- ==== Sys2Proof/Machine/HostAgent.lean ====
section
/-! DEFINITION. The host's step: one action of its program (R6, R71, R92). A CTRL write is decoded and executed (R66, R82). -/

namespace Sys2Proof.Machine

/-- A CTRL write: the operation the word decodes to; a reserved OP is refused (R40, R82, R83). -/
def ctrlWrite (v : Word) (s : State) : Host.Outcome State Fault Refusal :=
  match decode s.params .ctrl (wordBytes v) with
  | .ok i => exec i s
  | .error e => .refused (.undecodable e)

/-- `HostWrite(off, v)` (R61 to R66). -/
def hostWrite (w : Width) (off : Nat) (v : Word) (s : State) : Host.Outcome State Fault Refusal :=
  match accessRefusal w off with
  | some r => .refused r
  | none => if off = offCtrl then ctrlWrite v s else .next (windowWrite off v s)

/-- A wire command word: the row it decodes to; any other triplet is framed and sent all the same (R89). -/
def hostCommand (t : Triplet) (s : State) : Host.Outcome State Fault Refusal :=
  match decode s.params .triplet (tripletBytes t) with
  | .ok i => exec i s
  | .error _ => runUnlisted t s

/-- `wait`: one read of STATUS; until it reads IDLE or FAULT the host waits again (R92, R255; log entry 16). -/
def hostWait (s : State) : State :=
  if statusDone (statusWord s) then s else setProgram (.wait :: s.program) s

/-- `check`: one read of STATUS; in FAULT the program stops with the error s[11:8] (R92, R202; log entry 16). -/
def hostCheck (s : State) : State :=
  if statusFault (statusWord s) then stopHost (statusErr (statusWord s)) s else s

/-- One host action, in the state whose program no longer lists it. -/
def hostAct (a : HostAction) (s : State) : Host.Outcome State Fault Refusal :=
  match a with
  | .read w off => hostRead w off s
  | .write w off v => hostWrite w off v s
  | .wait => .next (hostWait s)
  | .check => .next (hostCheck s)
  | .command t => hostCommand t s
  | .readSnapshot => .next (startSnapshot s)
  | .endRow t len => .next (endSnapshotRow t len s)
  | .returnSnapshot => .next (endSnapshot s)

/-- The host's step: the first action of its program; with none left it does nothing (R252, R261; log entry 8). The program
may be any list of actions: one that selects a channel and ends without restoring channel 0 is kept, though R235 lists that
duty as assumed. Keeping such runs is the model's choice (log entry 22). -/
def hostStep (s : State) : Host.Outcome State Fault Refusal :=
  match s.program with
  | [] => .next s
  | a :: rest => hostAct a (setProgram rest s)

/-- One input: the agent it names moves (R6). A reset is one atomic step and may land at any time (R250). -/
def inputStep (i : Input) (s : State) : Host.Outcome State Fault Refusal :=
  match i with
  | .host => hostStep s
  | .answer a => transportAnswer a s
  | .lateAnswer a => lateAnswer a s
  | .reset => .next (resetBlock s)

/-- The step of the agent whose turn it is: the first input, or the host where there is none (log entry 1). -/
def agentStep (s : State) : Host.Outcome State Fault Refusal :=
  match s.inputs with
  | [] => hostStep s
  | i :: rest => inputStep i (setInputs rest s)

/-- The host action that carries an instruction word: a CTRL write, or a wire command (R80). -/
def fetchAction (nbits w : Nat) : HostAction :=
  match tableFormat nbits with
  | .ctrl => sw offCtrl (BitVec.ofNat 32 w)
  | .triplet => .command (BitVec.ofNat 24 w)

/-- The state in which the host's very next action carries the word, and the host moves next (log entry 2). -/
def placeWord (nbits w : Nat) (s : State) : State :=
  setInputs (.host :: s.inputs) (setProgram (fetchAction nbits w :: s.program) s)

end Sys2Proof.Machine
end

