-- ==== Sys2Proof/Safety.lean ====
section
/-! DEFINITION. What counts as a good state or run, in the terms the statements use: the invariant of the machine, when a
result means something (R256), when a run has ended (R261) or hangs (R125), and the host's turn. -/

namespace Sys2Proof.Machine

open Sys2Proof.Config

/-- The two header bytes of the response equal those of the request (R120). -/
def EchoGood (s : State) : Prop :=
  Memory.read s.rxb 0 = Memory.read s.txb 1 ∧ Memory.read s.rxb 1 = Memory.read s.txb 2

/-- The three buffers are in canonical form, each within its size (R31 to R33; log entry 12). -/
structure BuffersCanonical (s : State) : Prop where
  txb : Memory.wf txLen s.txb
  rxb : Memory.wf rxLen s.rxb
  payload : Memory.wf payloadMax s.payload

/-- The invariant of the machine: what R20 to R33 and R220 to R225 say of every state a run reaches. -/
structure GoodState (s : State) : Prop where
  /-- The buffers are in canonical form. -/
  buffers : BuffersCanonical s
  /-- TXB has the form of a command report: byte 0 and bytes 4 to 64 are 0x00 (R86). -/
  reportForm : Memory.read s.txb 0 = 0x00 ∧ ∀ i, 4 ≤ i → Memory.read s.txb i = 0x00
  /-- ERR is 0 exactly outside FAULT (R26, R220). -/
  errNone : s.err = errNone ↔ s.phase ≠ .fault
  /-- ERR is never 1, 5 or a reserved code (R220, R222). -/
  errRaised : s.err.toNat = 0 ∨ s.err.toNat = 2 ∨ s.err.toNat = 3 ∨ s.err.toNat = 4
  /-- TXCNT is 0..65 (R27). -/
  txcntRange : s.txcnt.toNat ≤ txLen
  /-- RXCNT is 0..64 (R28). -/
  rxcntRange : s.rxcnt.toNat ≤ rxLen
  /-- In TX nothing has been counted or received (R111). -/
  inTx : s.phase = .tx → s.txcnt.toNat = 0 ∧ s.rxcnt.toNat = 0 ∧ s.rxb = []
  /-- In RX the write was full and nothing has been received (R114). -/
  inRx : s.phase = .rx → s.txcnt.toNat = txLen ∧ s.rxcnt.toNat = 0 ∧ s.rxb = []
  /-- XFAIL is set in FAULT alone, by a failed write or a failed read (R25). -/
  xfailFault : s.xfail = true → s.phase = .fault ∧ (s.err.toNat = 2 ∨ s.err.toNat = 3)
  /-- PVALID is set in IDLE alone, after a full write and a full read with a good echo (R24, R121). -/
  validGood : s.pvalid = true → s.phase = .idle ∧ s.txcnt.toNat = txLen ∧ s.rxcnt.toNat = rxLen ∧ EchoGood s
  /-- A valid PAYLOAD is the first min(ELEN, 62) payload bytes of the response, then 0x00 (R33, R121). -/
  validPayload : s.pvalid = true → s.plen.toNat = extractLength s ∧
    ∀ i, Memory.read s.payload i = if i < extractLength s then Memory.read s.rxb (hdrLen + i) else 0x00
  /-- Without PVALID, PAYLOAD is all zero and PLEN is 0 (R24, R225). -/
  invalidPayload : s.pvalid = false → s.payload = [] ∧ s.plen.toNat = 0
  /-- ERR 2: the write was not full, nothing was read (R115, R116, R223). -/
  afterWriteFault : s.err.toNat = 2 → s.txcnt.toNat < txLen ∧ s.rxcnt.toNat = 0 ∧ s.rxb = []
  /-- ERR 3: the write was full, the read was not (R117, R118). -/
  afterReadFault : s.err.toNat = 3 → s.txcnt.toNat = txLen ∧ s.rxcnt.toNat < rxLen
  /-- ERR 4: both were full and the echo is wrong (R120). -/
  afterMismatch : s.err.toNat = 4 → s.txcnt.toNat = txLen ∧ s.rxcnt.toNat = rxLen ∧ ¬ EchoGood s
  /-- RXB is 0x00 past the bytes delivered (R32). -/
  pastDelivered : ∀ i, s.rxcnt.toNat ≤ i → Memory.read s.rxb i = 0x00
  /-- Every report the Transport was given is a 65-byte command report (R69, R86). -/
  reportsFramed : ∀ b ∈ s.sent, ∃ c r u : Byte, b = cmdReport c r u
  /-- Out of IDLE, TXB holds the report last sent (R31, R224). -/
  lastReport : s.phase ≠ .idle → s.sent.getLast? = some (Memory.bytes txLen s.txb)

/-- Payload-derived values are meaningful: IDLE with PVALID (R256). -/
def resultsMeaningful (s : State) : Bool := s.phase == .idle && s.pvalid

/-- The host's program is over and the block is in IDLE or FAULT (R261). -/
def runEnded (s : State) : Bool := s.program == [] && (s.phase == .idle || s.phase == .fault)

/-- No reset is among the inputs. -/
def noReset (inputs : List Input) : Prop := Input.reset ∉ inputs

/-- Neither a reset nor an answer to the pending request is among the inputs: the Transport never answers (R125). -/
def neverAnswers (inputs : List Input) : Prop := ∀ i ∈ inputs, i ≠ .reset ∧ ∀ a, i ≠ .answer a

/-- The device is left on channel 0 (R190), under the device assumption of R189. No step requires it (log entry 22). -/
def channelRestored (s : State) : Bool := s.channel == some 0

/-- Where the host moves next: the state with that turn taken from the inputs. -/
def hostTurn (s : State) : Option State :=
  match s.inputs with
  | [] => some s
  | .host :: rest => some (setInputs rest s)
  | _ :: _ => none

/-- Every byte of a buffer is 0x00. -/
def AllZero (m : Memory) : Prop := ∀ j, Memory.read m j = 0x00

/-- A buffer holds the command report of a triplet: 00, CMD, REG, SUB, then 0x00 (R86). -/
def HoldsReport (m : Memory) (c r u : Byte) : Prop :=
  Memory.read m 0 = 0x00 ∧ Memory.read m 1 = c ∧ Memory.read m 2 = r ∧ Memory.read m 3 = u ∧
    ∀ j, 4 ≤ j → Memory.read m j = 0x00

/-- A 32-bit CTRL write whose bits [3:0] are `n` is the instruction `i` (R66, R82, R84). -/
def RunsOnOp (i : Instr) (n : BitVec 4) : Prop :=
  ∀ (s : State) (v : Word), v.extractLsb' 0 4 = n → hostWrite .word 0x008 v s = exec i s

/-- The outcome is the next state with the triplet and the length written, the report framed, handed over and the last
results cleared; the host is left to wait, check and decode by kind `k`, and nothing else changes but the model's note of the
device's channel (R111, R208). -/
def IssuedFrom (s : State) (c r u l : Byte) (k : Option DecodeKind) (o : Host.Outcome State Fault Refusal) : Prop :=
  ∃ (txb rxb payload : Memory) (ch : Option Channel),
    o = .next
      { s with
        cmd := c, reg := r, sub := u, len := l, elen := l, phase := .tx, pvalid := false, xfail := false, txcnt := 0,
        rxcnt := 0, plen := 0, txb := txb, rxb := rxb, payload := payload, sent := s.sent ++ [cmdReport c r u],
        channel := ch, program := afterIssue k ++ s.program } ∧
    HoldsReport txb c r u ∧ AllZero rxb ∧ AllZero payload

/-- The instruction completes with its command issued. -/
def IssuesCommand (i : Instr) (c r u l : Byte) (k : Option DecodeKind) (s : State) : Prop := IssuedFrom s c r u l k (exec i s)

/-! ### The value of a binary64 pattern -/

/-- The exact rational value of a binary64 pattern that is zero or normal, which all results of DEC_LF16 are (R145, R146;
log entry 15). -/
def binary64Value (b : DWord) : ℚ :=
  let sign : ℚ := if b.getLsbD 63 then -1 else 1
  let e := (b.extractLsb' 52 11).toNat
  let f := (b.extractLsb' 0 52).toNat
  if e = 0 ∧ f = 0 then 0 else sign * (1 + (f : ℚ) / 2 ^ 52) * (2 : ℚ) ^ ((e : ℤ) - 1023)

/-- lf16(w) = v * 2^p, an exact rational (R145). -/
def lf16Value (w : Half) : ℚ := (lf16Mantissa w : ℚ) * (2 : ℚ) ^ lf16Exponent w

end Sys2Proof.Machine
end

