-- ==== Sys2Proof/Certificates/Slice0/Obligations.lean ====
section
/-! DEFINITION. The statements for the provers. Each docstring names the rule it formalises; OBLIGATIONS.json lists them. -/

open Sys2Proof Sys2Proof.Machine Sys2Proof.Config

/-! ### Encoding -/

/-- Decoding an encoded well-formed instruction gives it back; a triplet that decodes is the encoding of its instruction; a
CTRL word that decodes is, in its bits [3:0], the encoding of its instruction; and only whole words decode (R80 to R85).
READ_NAME's sub-index as an operand is the model's choice (log entry 5). -/
def Obligations.DecodeAndEncodeAgree : Prop :=
  (∀ (p : Params) (i : Instr), i.wf p = true → decode p i.format (encode i) = .ok i) ∧
  (∀ (p : Params) (c r u : Byte) (i : Instr), decode p .triplet [c, r, u] = .ok i →
    i.wf p = true ∧ i.format = .triplet ∧ encode i = [c, r, u]) ∧
  (∀ (p : Params) (v : Word) (i : Instr), decode p .ctrl (wordBytes v) = .ok i →
    i.wf p = true ∧ i.format = .ctrl ∧ encode i = wordBytes (v &&& 0x0000000F)) ∧
  (∀ (p : Params) (f : Format) (bs : List Byte) (i : Instr), decode p f bs = .ok i → bs.length = f.byteLength)

/-- R84: CTRL bits [31:4] do not matter. -/
def Obligations.CtrlUpperBitsIgnored : Prop :=
  ∀ (s : State) (v : Word), hostWrite .word 0x008 v s = hostWrite .word 0x008 (v &&& 0x0000000F) s

/-- A few words of the tables of R82 and R173 to R188 decode to the instructions they stand for. That the width
tells the format is the model's choice (log entry 13). -/
def Obligations.TableWordsDecode : Prop :=
  decodeTableWord 32 0x00000000 = some .nop ∧ decodeTableWord 32 0x00000001 = some .transact ∧
  decodeTableWord 32 0x00000005 = some .loadRaw32 ∧ decodeTableWord 24 0x008803 = some .readVin ∧
  decodeTableWord 24 0x009903 = some .readVendor ∧ decodeTableWord 24 0x00D203 = some .readUptime ∧
  decodeTableWord 24 0x0003FE = some (.readName 0x00) ∧ decodeTableWord 24 0x010002 = some .selectCh1

/-- R83: a CTRL write with a reserved OP is refused. -/
def Obligations.ReservedOpRefused : Prop :=
  ∀ (s : State) (v : Word), 6 ≤ (v.extractLsb' 0 4).toNat →
    hostWrite .word 0x008 v s = .refused (.undecodable (.reservedOp (v.extractLsb' 0 4)))

/-- When the host moves and its next action carries a word that decodes to an instruction, the step is that instruction, in
the state with the turn and the action taken away (R6, R66, R82). Inputs and program are the model's own (log entries 1 to
3). -/
def Obligations.StepRunsDecodedInstruction : Prop :=
  (∀ (s t : State) (rest : List HostAction) (v : Word) (i : Instr), hostTurn s = some t →
    t.program = .write .word 0x008 v :: rest → decode t.params .ctrl (wordBytes v) = .ok i →
    step s = exec i (setProgram rest t)) ∧
  (∀ (s t : State) (rest : List HostAction) (w : Triplet) (i : Instr), hostTurn s = some t →
    t.program = .command w :: rest → decode t.params .triplet (tripletBytes w) = .ok i →
    step s = exec i (setProgram rest t))

/-! ### CTRL operations -/

/-- R141: NOP, in every phase. -/
def Obligations.NopChangesNothing : Prop :=
  RunsOnOp .nop 0x0 ∧ ∀ s : State, exec .nop s = .next s

/-- R111: TRANSACT in IDLE. ERR stays 0 in every state that meets the invariant. -/
def Obligations.TransactIssuesInIdle : Prop :=
  RunsOnOp .transact 0x1 ∧
  ∀ s : State, s.phase = .idle →
    ∃ (t : State) (txb rxb payload : Memory) (ch : Option Channel),
      exec .transact s = .next t ∧
      t = { s with
        txb := txb, elen := s.len, rxb := rxb, payload := payload, plen := 0, pvalid := false, xfail := false,
        txcnt := 0, rxcnt := 0, phase := .tx, sent := s.sent ++ [Memory.bytes txLen txb], channel := ch } ∧
      HoldsReport txb s.cmd s.reg s.sub ∧ AllZero rxb ∧ AllZero payload ∧ pendingRequest t = some .write ∧
      (GoodState s → t.err = 0)

/-- R112: TRANSACT in TX or RX. -/
def Obligations.TransactWhileBusyRefused : Prop :=
  ∀ s : State, s.phase = .tx ∨ s.phase = .rx → exec .transact s = .refused .transactWhileBusy

/-- R113: TRANSACT in FAULT. -/
def Obligations.TransactInFaultDropped : Prop :=
  ∀ s : State, s.phase = .fault → exec .transact s = .next s

/-- R142: LOAD_RAW16, in every phase. In a state that meets the invariant, the bytes past PLEN are 0x00. -/
def Obligations.LoadRaw16Loads : Prop :=
  RunsOnOp .loadRaw16 0x4 ∧
  ∀ s : State, ∃ v : Word, exec .loadRaw16 s = .next { s with raw := v } ∧
    v.toNat = (Memory.read s.payload 0).toNat + 2 ^ 8 * (Memory.read s.payload 1).toNat ∧
    (GoodState s → ∀ j, s.plen.toNat ≤ j → Memory.read s.payload j = 0x00)

/-- R143: LOAD_RAW32, in every phase. In a state that meets the invariant, the bytes past PLEN are 0x00. -/
def Obligations.LoadRaw32Loads : Prop :=
  RunsOnOp .loadRaw32 0x5 ∧
  ∀ s : State, ∃ v : Word, exec .loadRaw32 s = .next { s with raw := v } ∧
    v.toNat = (Memory.read s.payload 0).toNat + 2 ^ 8 * (Memory.read s.payload 1).toNat
      + 2 ^ 16 * (Memory.read s.payload 2).toNat + 2 ^ 24 * (Memory.read s.payload 3).toNat ∧
    (GoodState s → ∀ j, s.plen.toNat ≤ j → Memory.read s.payload j = 0x00)

/-- R148: DEC_U32, in every phase. -/
def Obligations.DecU32PassesThrough : Prop :=
  RunsOnOp .decU32 0x3 ∧ ∀ s : State, exec .decU32 s = .next { s with ures := s.raw }

/-- R147: DEC_LF16, in every phase, from RAW[15:0] alone. -/
def Obligations.DecLf16WritesPattern : Prop :=
  RunsOnOp .decLf16 0x2 ∧ ∀ s : State, exec .decLf16 s = .next { s with fres := lf16Pattern (s.raw.extractLsb' 0 16) }

/-- R144: the two fields, equal to the source's shifts, and in their ranges. The equality with the shifts is an inference the
spec marks as its own: "It equals sext_32(w[10:0]) [derived: from the quoted shift description]" (X1, X2). -/
def Obligations.Lf16FieldsAreTheShifts : Prop :=
  ∀ w : Half,
    lf16Exponent w = (w.extractLsb' 11 5).toInt ∧ lf16Mantissa w = (w.extractLsb' 0 11).toInt ∧
    lf16Exponent w = (w.sshiftRight 11).toInt ∧ lf16Mantissa w = ((w.setWidth 32 <<< 21).sshiftRight 21).toInt ∧
    -16 ≤ lf16Exponent w ∧ lf16Exponent w ≤ 15 ∧ -1024 ≤ lf16Mantissa w ∧ lf16Mantissa w ≤ 1023

/-- R146: the bit pattern. For v = 0 it is +0.0; otherwise the sign bit, the biased exponent and the fraction are those of
m = |v| with 2^k <= m < 2^(k+1). The layout and the +0.0 are PRESUMED, general knowledge that the spec supplies (log entry
15). -/
def Obligations.Lf16PatternLayout : Prop :=
  ∀ w : Half,
    (lf16Mantissa w = 0 → lf16Pattern w = 0x0000000000000000) ∧
    (lf16Mantissa w ≠ 0 → ∃ k : Nat, k ≤ 10 ∧ 2 ^ k ≤ (lf16Mantissa w).natAbs ∧ (lf16Mantissa w).natAbs < 2 ^ (k + 1) ∧
      (lf16Pattern w).getLsbD 63 = decide (lf16Mantissa w < 0) ∧
      (((lf16Pattern w).extractLsb' 52 11).toNat : Int) = k + lf16Exponent w + 1023 ∧
      1007 ≤ k + lf16Exponent w + 1023 ∧ k + lf16Exponent w + 1023 ≤ 1048 ∧
      ((lf16Pattern w).extractLsb' 0 52).toNat = ((lf16Mantissa w).natAbs - 2 ^ k) * 2 ^ (52 - k))

/-- R145, R146: the pattern DEC_LF16 leaves in FRES has exactly the value v * 2^p, within its bounds. The layout that gives a
pattern its value is PRESUMED (log entry 15). -/
def Obligations.DecLf16IsExact : Prop :=
  ∀ s : State, ∃ t, exec .decLf16 s = .next t ∧
    binary64Value t.fres = lf16Value (s.raw.extractLsb' 0 16) ∧
    -33554432 ≤ binary64Value t.fres ∧ binary64Value t.fres ≤ 33521664 ∧
    (binary64Value t.fres ≠ 0 → (1 : ℚ) / 2 ^ 16 ≤ |binary64Value t.fres|)

/-- R150 (a) and (c): the sign of a decoded value is the mantissa's, and every mantissa and exponent survive encoding and
decoding. -/
def Obligations.Lf16SignAndRoundTrip : Prop :=
  (∀ w : Half, (lf16Value w < 0 ↔ w.getLsbD 10 = true) ∧ (lf16Value w = 0 ↔ w.extractLsb' 0 11 = 0)) ∧
  (∀ v p : Int, -1024 ≤ v → v ≤ 1023 → -16 ≤ p → p ≤ 15 → lf16Value (lf16Encode v p) = (v : ℚ) * (2 : ℚ) ^ p)

/-- R151: the decoder operations run in every phase and leave the transaction alone; out of IDLE, in a state that meets the
invariant, the loads give zero. -/
def Obligations.DecoderLeavesTransaction : Prop :=
  ∀ (s : State) (i : Instr), i ∈ [Instr.nop, .loadRaw16, .loadRaw32, .decLf16, .decU32] →
    ∃ t, exec i s = .next t ∧ t.phase = s.phase ∧ t.err = s.err ∧ t.txb = s.txb ∧ t.rxb = s.rxb ∧ t.payload = s.payload ∧
      pendingRequest t = pendingRequest s ∧ t.sent = s.sent ∧
      (GoodState s → s.phase ≠ .idle → i = .loadRaw16 ∨ i = .loadRaw32 → t.raw = 0)

/-! ### Transport answers -/

/-- R114: a full write, and the read request. -/
def Obligations.FullWriteStartsRead : Prop :=
  ∀ s : State, s.phase = .tx →
    ∃ t, transportAnswer (.accepted 65) s = .next t ∧ t = { s with txcnt := 65, phase := .rx } ∧ pendingRequest t = some .read

/-- R115: a short write. In a state that meets the invariant, what stays is zero. -/
def Obligations.ShortWriteFaults : Prop :=
  ∀ (s : State) (n : Nat), s.phase = .tx → n ≤ 64 →
    ∃ t ch, transportAnswer (.accepted n) s = .next t ∧
      t = { s with txcnt := BitVec.ofNat 8 n, err := 2, phase := .fault, channel := ch } ∧
      (GoodState s → t.xfail = false ∧ AllZero t.rxb ∧ AllZero t.payload ∧ t.pvalid = false)

/-- R116: a failed write. -/
def Obligations.FailedWriteFaults : Prop :=
  ∀ s : State, s.phase = .tx →
    ∃ ch, transportAnswer .fail s = .next { s with txcnt := 0, xfail := true, err := 2, phase := .fault, channel := ch }

/-- R117: a failed read. In a state that meets the invariant, RXB stays all zero. -/
def Obligations.FailedReadFaults : Prop :=
  ∀ s : State, s.phase = .rx →
    ∃ t, transportAnswer .fail s = .next t ∧ t = { s with rxcnt := 0, xfail := true, err := 3, phase := .fault } ∧
      (GoodState s → AllZero t.rxb)

/-- R118: a short read keeps the partial bytes, whatever its header. In a state that meets the invariant, RXB past them is
0x00 and XFAIL is 0. -/
def Obligations.ShortReadFaults : Prop :=
  ∀ (s : State) (b : List Byte), s.phase = .rx → b.length ≤ 63 →
    ∃ t rxb, transportAnswer (.data b) s = .next t ∧
      t = { s with rxb := rxb, rxcnt := BitVec.ofNat 8 b.length, err := 3, phase := .fault } ∧
      (∀ j, Memory.read rxb j = if j < b.length then b.getD j 0x00 else Memory.read s.rxb j) ∧
      (GoodState s → t.xfail = false ∧ ∀ j, b.length ≤ j → Memory.read rxb j = 0x00)

/-- R119, R120: a full read with a wrong echo, the diagnostics readable at EXPHDR and ACTHDR. In a state that meets the invariant,
there is no payload. -/
def Obligations.WrongEchoFaults : Prop :=
  ∀ (s : State) (b : List Byte), s.phase = .rx → b.length = 64 →
    (b.getD 0 0x00 ≠ Memory.read s.txb 1 ∨ b.getD 1 0x00 ≠ Memory.read s.txb 2) →
    ∃ t rxb, transportAnswer (.data b) s = .next t ∧
      t = { s with rxb := rxb, rxcnt := 64, err := 4, phase := .fault } ∧
      (∀ j, j < 64 → Memory.read rxb j = b.getD j 0x00) ∧
      (windowRead t 0x010).extractLsb' 0 16 = Memory.read s.txb 2 ++ Memory.read s.txb 1 ∧
      (windowRead t 0x014).extractLsb' 0 16 = b.getD 1 0x00 ++ b.getD 0 0x00 ∧
      (GoodState s → t.pvalid = false ∧ AllZero t.payload ∧ t.plen = 0)

/-- R121: a full read with a good echo, and the extraction. In a state that meets the invariant, PAYLOAD past PLEN is 0x00 and
ERR is 0. -/
def Obligations.GoodEchoExtractsPayload : Prop :=
  ∀ (s : State) (b : List Byte), s.phase = .rx → b.length = 64 →
    b.getD 0 0x00 = Memory.read s.txb 1 → b.getD 1 0x00 = Memory.read s.txb 2 →
    ∃ (t : State) (rxb payload : Memory) (plen : BitVec 6) (ch : Option Channel),
      transportAnswer (.data b) s = .next t ∧
      t = { s with
        rxb := rxb, rxcnt := 64, plen := plen, payload := payload, pvalid := true, phase := .idle, channel := ch } ∧
      plen.toNat = min s.elen.toNat 62 ∧ (∀ j, j < 64 → Memory.read rxb j = b.getD j 0x00) ∧
      (∀ j, Memory.read payload j
        = if j < min s.elen.toNat 62 then b.getD (2 + j) 0x00 else Memory.read s.payload j) ∧
      (GoodState s → t.err = 0 ∧ ∀ j, min s.elen.toNat 62 ≤ j → Memory.read payload j = 0x00)

/-- R122: an answer has no meaning exactly where no pending request admits it; refusing it is the model's choice (log
entry 14). -/
def Obligations.ImpossibleAnswersRefused : Prop :=
  ∀ (s : State) (a : Answer),
    transportAnswer a s = .refused (.impossibleAnswer a) ↔
      ¬ ((s.phase = .tx ∧ (a = .fail ∨ ∃ n, n ≤ 65 ∧ a = .accepted n)) ∨
         (s.phase = .rx ∧ (a = .fail ∨ ∃ b : List Byte, b.length ≤ 64 ∧ a = .data b)))

/-- R250, R251: a reset in TX or RX leaves the state of R54, and a late answer that the abandoned request admits strikes one
abandoned request and changes nothing else. The list of abandoned requests, of which the answer strikes the oldest that
admits it, is the model's own (log entry 7); that a reset keeps the host, the reports sent and the parameters is its choice
(log entry 4), and that the device's channel is then unknown an assumption about the device (log entry 6). -/
def Obligations.ResetAbandonsTransaction : Prop :=
  ∀ (s : State) (a : Answer) (r : Request) (rest : List Input),
    s.inputs = .reset :: .lateAnswer a :: rest → pendingRequest s = some r → admissible r a = true →
    ∃ (older newer : List Request) (q : Request), s.abandoned ++ [r] = older ++ q :: newer ∧ admissible q a = true ∧
      (∀ p ∈ older, admissible p a = false) ∧
      Host.Core.run Sys2Proof.core 2 s = .next
        { State.reset with
          sent := s.sent, abandoned := older ++ newer, program := s.program, reads := s.reads, stopped := s.stopped,
          run := s.run, inputs := rest, params := s.params }

/-! ### Host accesses -/

/-- R61, R62, R64: which accesses are refused; a read of any other offset is answered, and a write of any other offset but
CTRL is taken. -/
def Obligations.AccessesRefusedOutsideTheMap : Prop :=
  ∀ (s : State) (w : Width) (off : Nat) (v : Word),
    let bad := w ≠ .word ∨ off % 4 ≠ 0 ∨ (0x02C ≤ off ∧ off ≤ 0x0FC) ∨ (0x144 ≤ off ∧ off ≤ 0x17C) ∨ 0x200 ≤ off
    ((∃ r, hostRead w off s = .refused r) ↔ bad) ∧ ((∃ t, hostRead w off s = .next t) ↔ ¬ bad) ∧
    (bad → ∃ r, hostWrite w off v s = .refused r) ∧
    (off ≠ 0x008 → ¬ bad → ∃ t, hostWrite w off v s = .next t)

/-- R65, R66, R71: a host read hands the host the word the window shows at that offset and has no side effect (the list of
values read is the model's own, log entry 18). What the window shows is said by RegistersReadBack and
BufferWindowsShowBytes. -/
def Obligations.HostReadHasNoSideEffect : Prop :=
  ∀ (s t : State) (w : Width) (off : Nat), hostRead w off s = .next t →
    t = { s with reads := s.reads ++ [(off, windowRead s off)] }

/-- R38, R39, R45, R66: host writes to TRIPLET, LEN and RAW, in every phase. -/
def Obligations.HostWritesItsRegisters : Prop :=
  ∀ (s : State) (v : Word),
    hostWrite .word 0x000 v s
      = .next { s with cmd := v.extractLsb' 0 8, reg := v.extractLsb' 8 8, sub := v.extractLsb' 16 8 } ∧
    hostWrite .word 0x004 v s = .next { s with len := v.extractLsb' 0 8 } ∧
    hostWrite .word 0x01C v s = .next { s with raw := v }

/-- R51, R65: a write to a read-only register or window changes no state. -/
def Obligations.ReadOnlyPlacesIgnoreWrites : Prop :=
  ∀ (s : State) (off : Nat) (v : Word), off % 4 = 0 →
    (off = 0x00C ∨ off = 0x010 ∨ off = 0x014 ∨ off = 0x018 ∨ (0x020 ≤ off ∧ off ≤ 0x028) ∨ (0x100 ≤ off ∧ off ≤ 0x140) ∨
      (0x180 ≤ off ∧ off ≤ 0x1FC)) →
    hostWrite .word off v s = .next s

/-- R38 to R47: what the eleven registers read as. -/
def Obligations.RegistersReadBack : Prop :=
  ∀ s : State,
    windowRead s 0x000 = 0x00#8 ++ s.sub ++ s.reg ++ s.cmd ∧
    windowRead s 0x004 = 0x000000#24 ++ s.len ∧
    windowRead s 0x008 = 0x00000000#32 ∧
    windowRead s 0x00C = s.rxcnt ++ s.txcnt ++ 0#4 ++ s.err ++ 0#4 ++ BitVec.ofBool s.xfail ++ BitVec.ofBool s.pvalid
      ++ s.phase.code ∧
    windowRead s 0x010 = 0x00#8 ++ Memory.read s.txb 3 ++ Memory.read s.txb 2 ++ Memory.read s.txb 1 ∧
    windowRead s 0x014 = 0x0000#16 ++ Memory.read s.rxb 1 ++ Memory.read s.rxb 0 ∧
    windowRead s 0x018 = 0x0000#16 ++ s.elen ++ 0#2 ++ s.plen ∧
    windowRead s 0x01C = s.raw ∧
    windowRead s 0x024 ++ windowRead s 0x020 = s.fres ∧
    windowRead s 0x028 = s.ures

/-- R41: the fields of STATUS as a host reads them, and that the read has no side effect on the block. -/
def Obligations.StatusFields : Prop :=
  (∀ s : State, ∃ v : Word, hostRead .word 0x00C s = .next { s with reads := s.reads ++ [(0x00C, v)] } ∧
    v.extractLsb' 0 2 = s.phase.code ∧ v.getLsbD 2 = s.pvalid ∧ v.getLsbD 3 = s.xfail ∧ v.extractLsb' 4 4 = 0 ∧
    v.extractLsb' 8 4 = s.err ∧ v.extractLsb' 12 4 = 0 ∧ v.extractLsb' 16 8 = s.txcnt ∧ v.extractLsb' 24 8 = s.rxcnt) ∧
  hostRead .word 0x00C State.reset = .next { State.reset with reads := [(0x00C, 0x00000000)] }

/-- R48 to R50, R63: byte lane `j` of every word of the three buffer windows is the buffer byte at its offset, and 0x00 past
the buffer's end. -/
def Obligations.BufferWindowsShowBytes : Prop :=
  ∀ (s : State) (k j : Nat), j < 4 →
    (k < 17 → (windowRead s (0x100 + 4 * k)).extractLsb' (8 * j) 8
      = if 4 * k + j < 65 then Memory.read s.txb (4 * k + j) else 0x00) ∧
    (k < 16 → (windowRead s (0x180 + 4 * k)).extractLsb' (8 * j) 8 = Memory.read s.rxb (4 * k + j)) ∧
    (k < 16 → (windowRead s (0x1C0 + 4 * k)).extractLsb' (8 * j) 8
      = if 4 * k + j < 62 then Memory.read s.payload (4 * k + j) else 0x00)

/-- R55: a host write to TRIPLET or LEN while a transaction is in flight does not change what the Transport's answer makes
of it; a write to RAW neither. -/
def Obligations.WritesDuringTransactionDoNotChangeIt : Prop :=
  ∀ (s t : State) (a : Answer) (v : Word), transportAnswer a s = .next t →
    transportAnswer a (writeTriplet v s) = .next (writeTriplet v t) ∧
    transportAnswer a (writeLen v s) = .next (writeLen v t) ∧
    transportAnswer a (writeRaw v s) = .next (writeRaw v t)

/-- R92: `wait` goes on only when STATUS reads IDLE or FAULT; `check` stops the program with the error in FAULT, and
a call of `read_snapshot` with it (R200 (b), R202; log entry 19). One STATUS read a step is the model's choice (log entry
16). -/
def Obligations.WaitAndCheckReadStatus : Prop :=
  ∀ (s : State) (rest : List HostAction),
    (s.program = .wait :: rest →
      hostStep s = .next (if s.phase = .idle ∨ s.phase = .fault then { s with program := rest } else s)) ∧
    (s.program = .check :: rest →
      hostStep s = .next
        (if s.phase = .fault then
          { s with program := [], stopped := some s.err, run := endRun (.failed s.err) s.run }
        else { s with program := rest }))

/-! ### Wire commands -/

/-- R173 to R179, R184: the linear-float16 reads, with LEN 2. The step of a whole command is the model's choice (log
entry 3). -/
def Obligations.LinearFloatReadsIssue : Prop :=
  ∀ s : State, s.phase = .idle →
    IssuesCommand .readVin 0x03 0x88 0x00 2 (some .linearFloat16) s ∧
    IssuesCommand .readVout 0x03 0x8B 0x00 2 (some .linearFloat16) s ∧
    IssuesCommand .readIout 0x03 0x8C 0x00 2 (some .linearFloat16) s ∧
    IssuesCommand .readTemp1 0x03 0x8D 0x00 2 (some .linearFloat16) s ∧
    IssuesCommand .readTemp2 0x03 0x8E 0x00 2 (some .linearFloat16) s ∧
    IssuesCommand .readFan 0x03 0x90 0x00 2 (some .linearFloat16) s ∧
    IssuesCommand .readPout 0x03 0x96 0x00 2 (some .linearFloat16) s ∧
    IssuesCommand .readPtotal 0x03 0xEE 0x00 2 (some .linearFloat16) s

/-- R182, R183: the unsigned32 reads, with LEN 4 (log entry 3). -/
def Obligations.DurationReadsIssue : Prop :=
  ∀ s : State, s.phase = .idle →
    IssuesCommand .readPowered 0x03 0xD1 0x00 4 (some .unsigned32) s ∧
    IssuesCommand .readUptime 0x03 0xD2 0x00 4 (some .unsigned32) s

/-- R180, R181, R185: the raw-string reads, with LEN STRING_LEN, for every value of the parameters and every sub-index of
READ_NAME (log entries 3 and 5). -/
def Obligations.StringReadsIssue : Prop :=
  ∀ (s : State) (sub : Byte), s.phase = .idle →
    IssuesCommand .readVendor 0x03 0x99 0x00 s.params.stringLen (some .rawString) s ∧
    IssuesCommand .readProduct 0x03 0x9A 0x00 s.params.stringLen (some .rawString) s ∧
    IssuesCommand (.readName sub) 0xFE 0x03 sub s.params.stringLen (some .rawString) s

/-- R186 to R188: the channel selects, with LEN SELECT_LEN and no decode (log entries 3 and 5). -/
def Obligations.ChannelSelectsIssue : Prop :=
  ∀ s : State, s.phase = .idle →
    IssuesCommand .selectCh0 0x02 0x00 0x00 s.params.selectLen none s ∧
    IssuesCommand .selectCh1 0x02 0x00 0x01 s.params.selectLen none s ∧
    IssuesCommand .selectCh2 0x02 0x00 0x02 s.params.selectLen none s

/-- Out of IDLE a wire command sends nothing: while busy it is refused (R112), in FAULT only TRIPLET and LEN are written and
the host goes on to wait and check (R113, R202; log entry 3). -/
def Obligations.WireCommandsOutsideIdle : Prop :=
  ∀ (s : State) (i : Instr) (d : Descriptor), descriptorOf s.params i = some d →
    (s.phase = .tx ∨ s.phase = .rx → exec i s = .refused .transactWhileBusy) ∧
    (s.phase = .fault → exec i s = .next
      { s with
        cmd := d.command, reg := d.register, sub := d.subIndex, len := d.len,
        program := afterIssue d.kind ++ s.program })

/-- R89, R111: a triplet outside the table, as the host's command, is framed and handed to the Transport like any other. The
length it has and the lack of a decode are the model's choice (log entry 11), and so is the step of a command (log
entry 3). -/
def Obligations.UnlistedTripletsAreFramed : Prop :=
  ∀ (s : State) (w : Triplet) (e : DecodeError), s.phase = .idle →
    decode s.params .triplet (tripletBytes w) = .error e →
    IssuedFrom s (w.extractLsb' 0 8) (w.extractLsb' 8 8) (w.extractLsb' 16 8) s.len none (hostCommand w s)

/-- A wire command does exactly what the three host accesses of its procedure do one by one, when nothing comes between
them (R92, R208; log entry 3). -/
def Obligations.WireCommandIsItsAccesses : Prop :=
  ∀ (s : State) (i : Instr) (d : Descriptor), descriptorOf s.params i = some d → s.inputs = [] →
    Host.Core.run Sys2Proof.core 3 (setProgram (d.procedure ++ s.program) s) = exec i s

/-- From issue to value: a wire command issued in IDLE, a full write and a full response with its echo, then the host's wait,
check and pipeline leave the block in IDLE with the payload, and the host with the words it read: the linear-float16 pattern
of the first two payload bytes, the 32-bit number of the first four, or the sixteen words of the PAYLOAD window (R171, R208).
The step of a command, one step for a wait and one for a check, and the list of values read are the model's choice (log
entries 3, 16 and 18). -/
def Obligations.CommandYieldsItsValue : Prop :=
  ∀ (s : State) (i : Instr) (d : Descriptor) (b : List Byte), descriptorOf s.params i = some d → s.phase = .idle →
    s.inputs = [.answer (.accepted 65), .answer (.data b)] → b.length = 64 → b.getD 0 0x00 = d.command →
    b.getD 1 0x00 = d.register →
    ∃ u t, exec i s = .next u ∧ Host.Core.run Sys2Proof.core (2 + (afterIssue d.kind).length) u = .next t ∧
      t.phase = .idle ∧ t.pvalid = true ∧ t.program = s.program ∧ t.inputs = [] ∧
      t.sent = s.sent ++ [cmdReport d.command d.register d.subIndex] ∧
      (∀ j, Memory.read t.payload j = if j < min d.len.toNat 62 then b.getD (2 + j) 0x00 else 0x00) ∧
      (d.kind = some .linearFloat16 →
        t.fres = lf16Pattern (b.getD 3 0x00 ++ b.getD 2 0x00) ∧
        t.reads = s.reads ++ [(0x020, t.fres.extractLsb' 0 32), (0x024, t.fres.extractLsb' 32 32)]) ∧
      (d.kind = some .unsigned32 →
        t.ures = b.getD 5 0x00 ++ b.getD 4 0x00 ++ b.getD 3 0x00 ++ b.getD 2 0x00 ∧ t.reads = s.reads ++ [(0x028, t.ures)]) ∧
      (d.kind = some .rawString →
        t.reads = s.reads ++ (List.range 16).map fun k => (0x1C0 + 4 * k, windowRead t (0x1C0 + 4 * k))) ∧
      (d.kind = none → t.reads = s.reads)

/-- The other way out: where the Transport fails the command, the host stops at its check with the error, and reads nothing
(R202, R208; log entries 3 and 16). -/
def Obligations.FailedCommandStopsHost : Prop :=
  ∀ (s : State) (i : Instr) (d : Descriptor), descriptorOf s.params i = some d → s.phase = .idle →
    (∀ a : Answer, admissible .write a = true → a ≠ .accepted 65 → s.inputs = [.answer a] →
      ∃ u t, exec i s = .next u ∧ Host.Core.run Sys2Proof.core 3 u = .next t ∧ t.phase = .fault ∧ t.stopped = some 2 ∧
        t.program = [] ∧ t.reads = s.reads) ∧
    (∀ a : Answer, admissible .read a = true → (∀ b : List Byte, b.length = 64 → a ≠ .data b) →
      s.inputs = [.answer (.accepted 65), .answer a] →
      ∃ u t, exec i s = .next u ∧ Host.Core.run Sys2Proof.core 4 u = .next t ∧ t.phase = .fault ∧ t.stopped = some 3 ∧
        t.program = [] ∧ t.reads = s.reads) ∧
    (∀ b : List Byte, b.length = 64 → ¬ (b.getD 0 0x00 = d.command ∧ b.getD 1 0x00 = d.register) →
      s.inputs = [.answer (.accepted 65), .answer (.data b)] →
      ∃ u t, exec i s = .next u ∧ Host.Core.run Sys2Proof.core 4 u = .next t ∧ t.phase = .fault ∧ t.stopped = some 4 ∧
        t.program = [] ∧ t.reads = s.reads)

/-- The model's note of the device's channel (a device assumption, log entry 6): issuing a report of the select command
clears it, the good echo of SELECT_CHn sets it to n, a write that is not full clears it, and nothing else of a transaction
touches it: no failed read, and no good echo of any other report, be its command byte 0x02 or not. -/
def Obligations.DeviceChannelNote : Prop :=
  (∀ s t : State, s.phase = .idle → exec .transact s = .next t → t.channel = if s.cmd = 0x02 then none else s.channel) ∧
  (∀ (s t : State) (a : Answer), s.phase = .tx → transportAnswer a s = .next t →
    t.channel = if a = .accepted 65 then s.channel else none) ∧
  (∀ (s t : State) (a : Answer), s.phase = .rx → transportAnswer a s = .next t → t.phase = .fault →
    t.channel = s.channel) ∧
  (∀ (s t : State) (b : List Byte), s.phase = .rx → transportAnswer (.data b) s = .next t → t.phase = .idle →
    (∀ n : Channel, HoldsReport s.txb 0x02 0x00 (BitVec.ofNat 8 n.val) → t.channel = some n) ∧
    (Memory.read s.txb 1 ≠ 0x02 ∨ Memory.read s.txb 2 ≠ 0x00 ∨ 3 ≤ (Memory.read s.txb 3).toNat → t.channel = s.channel))

/-- R201, R203: the 23 transactions of a snapshot, their words T and LEN in order, and the reports a select makes up. -/
def Obligations.SnapshotTransactionsInOrder : Prop :=
  (snapshotRows Params.default).map (fun i => (descriptorOf Params.default i).map fun d => (d.word, d.len))
    = [some (0x0003FE, 62), some (0x009903, 62), some (0x009A03, 62), some (0x00D103, 4), some (0x00D203, 4),
       some (0x008D03, 2), some (0x008E03, 2), some (0x009003, 2), some (0x008803, 2), some (0x00EE03, 2),
       some (0x000002, 0), some (0x008B03, 2), some (0x008C03, 2), some (0x009603, 2),
       some (0x010002, 0), some (0x008B03, 2), some (0x008C03, 2), some (0x009603, 2),
       some (0x020002, 0), some (0x008B03, 2), some (0x008C03, 2), some (0x009603, 2),
       some (0x000002, 0)]

/-- R200, R204: a call of `read_snapshot` starts the sequencer afresh with the reference program, and no step changes a call
that has ended, but a new call. The call as a host action, and where a call's state is held, are the model's choice (log
entry 19). -/
def Obligations.SnapshotRunIsFreshAndKept : Prop :=
  (∀ (s : State) (rest : List HostAction), s.program = .readSnapshot :: rest →
    hostStep s = .next
      { s with
        program := snapshotProgram s.params ++ .returnSnapshot :: rest,
        run := some { sentBefore := s.sent.length, readsBefore := s.reads.length, rows := 0, outcome := .running } }) ∧
  (∀ (s t : State) (r : SnapshotRun), s.run = some r → r.outcome ≠ .running → step s = .next t →
    t.run = s.run ∨ ∃ u rest, hostTurn s = some u ∧ u.program = .readSnapshot :: rest)

/-- R200 (a), R203, R205: a call returns a record only when 23 rows were good, and the record is that of the values read since
the call; and a row counts only at the end of a row, in IDLE with PVALID, with that row's triplet framed and its length
latched, so after that row's own transaction with a good echo. The check at the end of a row is the model's form of R205
(log entry 19). -/
def Obligations.SnapshotNeedsGoodRows : Prop :=
  (∀ (s t : State) (r : SnapshotRun) (record : Snapshot), step s = .next t → t.run = some r → r.outcome = .complete record →
    s.run = some r ∨
    (r.rows = 23 ∧ assembleSnapshot ((t.reads.drop r.readsBefore).map (·.2)) = some record ∧
      ∃ q, s.run = some q ∧ q.outcome = .running)) ∧
  (∀ (s t : State) (q r : SnapshotRun), step s = .next t → s.run = some q → t.run = some r →
    r.rows = q.rows ∨ (r.rows = 0 ∧ r.outcome = .running) ∨
    (r.rows = q.rows + 1 ∧ s.phase = .idle ∧ s.pvalid = true ∧ (GoodState s → EchoGood s) ∧
      ∃ u rest w, hostTurn s = some u ∧ u.program = .endRow w s.elen :: rest ∧
        Memory.read s.txb 1 = w.extractLsb' 0 8 ∧ Memory.read s.txb 2 = w.extractLsb' 8 8 ∧
        Memory.read s.txb 3 = w.extractLsb' 16 8))

/-! ### The whole machine -/

/-- R54, R250: the values after reset, whatever the state before. -/
def Obligations.ResetRestoresEveryElement : Prop :=
  ∀ (s : State) (rest : List Input), s.inputs = .reset :: rest →
    ∃ t, step s = .next t ∧
      t.cmd = 0x00 ∧ t.reg = 0x00 ∧ t.sub = 0x00 ∧ t.len = 0x00 ∧ t.elen = 0x00 ∧ t.phase = .idle ∧ t.pvalid = false ∧
      t.xfail = false ∧ t.err = 0 ∧ t.txcnt = 0 ∧ t.rxcnt = 0 ∧ t.plen = 0 ∧ AllZero t.txb ∧ AllZero t.rxb ∧
      AllZero t.payload ∧ t.raw = 0 ∧ t.fres = 0 ∧ t.ures = 0

/-- The state after reset meets the invariant (the buffers' canonical form in it is the model's own, log entry 12). -/
def Obligations.ResetIsGoodState : Prop := GoodState State.reset

/-- Every step keeps the invariant of R20 to R33 and R220 to R225 (the buffers' canonical form in it is the model's own, log
entry 12). -/
def Obligations.StepKeepsGoodState : Prop :=
  ∀ s t : State, GoodState s → step s = .next t → GoodState t

/-- Every step keeps the three buffers in canonical form, which is the model's own (log entry 12). -/
def Obligations.StepKeepsBuffersCanonical : Prop :=
  ∀ s t : State, BuffersCanonical s → step s = .next t → BuffersCanonical t

/-- R221: only an answer of the Transport raises an error. A step of the host leaves ERR and leaves FAULT or its absence as
they are; a late answer too. -/
def Obligations.OnlyAnswersRaiseErrors : Prop :=
  ∀ (s t : State), step s = .next t → (∀ a rest, s.inputs ≠ .answer a :: rest) →
    (∀ rest, s.inputs ≠ .reset :: rest) → t.err = s.err ∧ (t.phase = .fault ↔ s.phase = .fault)

/-- R224: entering FAULT writes ERR and the diagnostics alone: TXB, PAYLOAD, PLEN, PVALID, RAW, FRES, URES and the host's
registers stay, and nothing is sent. -/
def Obligations.FaultEntryKeepsTheRest : Prop :=
  ∀ s t : State, step s = .next t → s.phase ≠ .fault → t.phase = .fault →
    (t.err = 2 ∨ t.err = 3 ∨ t.err = 4) ∧ t.txb = s.txb ∧ t.payload = s.payload ∧ t.plen = s.plen ∧ t.pvalid = s.pvalid ∧
    t.raw = s.raw ∧ t.fres = s.fres ∧ t.ures = s.ures ∧ t.cmd = s.cmd ∧ t.reg = s.reg ∧ t.sub = s.sub ∧ t.len = s.len ∧
    t.elen = s.elen ∧ t.sent = s.sent ∧ t.program = s.program ∧ t.reads = s.reads ∧ t.run = s.run

/-- R226, R202: in FAULT, whatever host and Transport do and however long, without a reset the block stays in FAULT with its
first error, its buffers and its counts, and no further report reaches the Transport. -/
def Obligations.FaultIsTerminal : Prop :=
  ∀ (k : Nat) (s t : State), s.phase = .fault → noReset s.inputs → Host.Core.run Sys2Proof.core k s = .next t →
    t.phase = .fault ∧ t.err = s.err ∧ t.sent = s.sent ∧ t.txb = s.txb ∧ t.rxb = s.rxb ∧ t.payload = s.payload ∧
    t.txcnt = s.txcnt ∧ t.rxcnt = s.rxcnt ∧ t.xfail = s.xfail ∧ t.pvalid = s.pvalid ∧ t.plen = s.plen

/-- R123, R72: a step hands the Transport at most one report, only on the way from IDLE to TX, and that report is TXB. -/
def Obligations.ReportsAreSentAtIssueOnly : Prop :=
  ∀ s t : State, step s = .next t →
    (t.sent = s.sent ∧ (s.phase = .idle → t.phase ≠ .tx)) ∨
    (s.phase = .idle ∧ t.phase = .tx ∧ t.sent = s.sent ++ [Memory.bytes txLen t.txb])

/-- R21: the block's own operations and the Transport's answers never write CMD, REG, SUB or LEN. -/
def Obligations.BlockNeverWritesHostRegisters : Prop :=
  (∀ (s t : State) (i : Instr), i.format = .ctrl → exec i s = .next t →
    t.cmd = s.cmd ∧ t.reg = s.reg ∧ t.sub = s.sub ∧ t.len = s.len) ∧
  (∀ (s t : State) (a : Answer), transportAnswer a s = .next t ∨ lateAnswer a s = .next t →
    t.cmd = s.cmd ∧ t.reg = s.reg ∧ t.sub = s.sub ∧ t.len = s.len ∧ t.raw = s.raw ∧ t.fres = s.fres ∧ t.ures = s.ures)

/-- R125: where the Transport never answers, the block stays in its phase however long the run, and a host that waits waits
for ever. That the waiting host's steps leave the state as it is, where R12 says that no agent can take the step, and one
STATUS read a step are the model's choice (log entries 8 and 16). -/
def Obligations.SilentTransportHangs : Prop :=
  (∀ (k : Nat) (s t : State), s.phase = .tx ∨ s.phase = .rx → neverAnswers s.inputs →
    Host.Core.run Sys2Proof.core k s = .next t →
    t.phase = s.phase ∧ t.txb = s.txb ∧ t.elen = s.elen ∧ t.rxb = s.rxb ∧ t.payload = s.payload ∧ t.sent = s.sent) ∧
  (∀ (k : Nat) (s : State) (rest : List HostAction), s.phase = .tx ∨ s.phase = .rx → s.inputs = [] →
    s.program = .wait :: rest → Host.Core.run Sys2Proof.core k s = .next s)

/-- R126: the source's contract. From IDLE, `op TRANSACT` and then the two answers: with a full write and a full read, the
payload or ProtocolMismatch; with any other admissible answer pair, ERR 2 or ERR 3. -/
def Obligations.TransactionContract : Prop :=
  ∀ (s : State) (rest : List HostAction) (more : List Input), s.phase = .idle → s.program = op .transact :: rest →
    (∀ b : List Byte, b.length = 64 → s.inputs = .host :: .answer (.accepted 65) :: .answer (.data b) :: more →
      ∃ t, Host.Core.run Sys2Proof.core 3 s = .next t ∧ t.program = rest ∧ t.inputs = more ∧
        (b.getD 0 0x00 = s.cmd ∧ b.getD 1 0x00 = s.reg →
          t.phase = .idle ∧ t.pvalid = true ∧
          ∀ j, j < min s.len.toNat 62 → Memory.read t.payload j = b.getD (2 + j) 0x00) ∧
        (¬ (b.getD 0 0x00 = s.cmd ∧ b.getD 1 0x00 = s.reg) →
          t.phase = .fault ∧ t.err = 4 ∧ t.pvalid = false ∧ AllZero t.payload)) ∧
    (∀ a : Answer, admissible .write a = true → a ≠ .accepted 65 → s.inputs = .host :: .answer a :: more →
      ∃ t, Host.Core.run Sys2Proof.core 2 s = .next t ∧ t.phase = .fault ∧ t.err = 2 ∧ t.pvalid = false) ∧
    (∀ a : Answer, admissible .read a = true → (∀ b : List Byte, b.length = 64 → a ≠ .data b) →
      s.inputs = .host :: .answer (.accepted 65) :: .answer a :: more →
      ∃ t, Host.Core.run Sys2Proof.core 3 s = .next t ∧ t.phase = .fault ∧ t.err = 3 ∧ t.pvalid = false)
end

