-- ==== Sys2Proof/Laws/Memory.lean ====
section
/-! SUPPORT. The laws of the buffers: read after write, every operation keeps the canonical form, and buffers in canonical
form with the same bytes are equal. -/

namespace Sys2Proof.Machine

open Sys2Proof.Config

/-! ### Reading -/

@[simp] theorem read_nil (a : Nat) : Memory.read [] a = 0x00 := rfl

@[simp] theorem read_cleared (a : Nat) : Memory.read Memory.cleared a = 0x00 := rfl

theorem read_cons (k : Nat) (v : Byte) (m : Memory) (a : Nat) :
    Memory.read ((k, v) :: m) a = if k = a then v else Memory.read m a := rfl

/-- An index that is not listed reads as `Memory.unlisted`. -/
theorem read_of_notListed {m : Memory} {a : Nat} (h : ∀ c ∈ m, c.1 ≠ a) : Memory.read m a = Memory.unlisted := by
  induction m with
  | nil => rfl
  | cons c m ih =>
    obtain ⟨k, v⟩ := c
    have hk : k ≠ a := h (k, v) (by simp)
    rw [read_cons, if_neg hk]
    exact ih fun d hd => h d (by simp [hd])

theorem notListed_erase (m : Memory) (a : Nat) : ∀ c ∈ Memory.erase m a, c.1 ≠ a := by
  intro c hc
  simpa using (List.mem_filter.mp hc).2

theorem read_erase_ne (m : Memory) {a b : Nat} (h : b ≠ a) : Memory.read (Memory.erase m a) b = Memory.read m b := by
  induction m with
  | nil => rfl
  | cons c m ih =>
    obtain ⟨k, v⟩ := c
    by_cases hk : k = a
    · subst hk
      have : Memory.erase ((k, v) :: m) k = Memory.erase m k := by simp [Memory.erase]
      rw [this, ih, read_cons, if_neg (Ne.symm h)]
    · have : Memory.erase ((k, v) :: m) a = (k, v) :: Memory.erase m a := by simp [Memory.erase, hk]
      rw [this, read_cons, read_cons, ih]

theorem read_insertCell_self (a : Nat) (v : Byte) {m : Memory} (h : ∀ c ∈ m, c.1 ≠ a) :
    Memory.read (Memory.insertCell a v m) a = v := by
  induction m with
  | nil => simp [Memory.insertCell, Memory.read]
  | cons c m ih =>
    obtain ⟨k, u⟩ := c
    have hk : k ≠ a := h (k, u) (by simp)
    rw [Memory.insertCell]
    split
    · simp [read_cons]
    · rw [read_cons, if_neg hk]
      exact ih fun d hd => h d (by simp [hd])

theorem read_insertCell_ne (m : Memory) (v : Byte) {a b : Nat} (h : b ≠ a) :
    Memory.read (Memory.insertCell a v m) b = Memory.read m b := by
  induction m with
  | nil => simp [Memory.insertCell, read_cons, Ne.symm h]
  | cons c m ih =>
    obtain ⟨k, u⟩ := c
    rw [Memory.insertCell]
    split
    · rw [read_cons, if_neg (Ne.symm h)]
    · rw [read_cons, read_cons, ih]

/-- Read after write: the written index gives the value, every other index what it gave before. -/
theorem read_write (m : Memory) (a b : Nat) (v : Byte) :
    Memory.read (Memory.write m a v) b = if b = a then v else Memory.read m b := by
  unfold Memory.write
  by_cases hb : b = a
  · subst hb
    by_cases hv : v = Memory.unlisted
    · simp only [hv, ↓reduceIte]
      exact read_of_notListed (notListed_erase m b)
    · simp only [hv, ↓reduceIte]
      exact read_insertCell_self b v (notListed_erase m b)
  · by_cases hv : v = Memory.unlisted
    · simp only [hv, hb, ↓reduceIte]
      exact read_erase_ne m hb
    · simp only [hv, hb, ↓reduceIte]
      rw [read_insertCell_ne _ _ hb, read_erase_ne m hb]

/-- Reading after a run of bytes is written: inside the run its bytes, outside what was there. -/
theorem read_writeBytes (m : Memory) (base : Nat) (bs : List Byte) (a : Nat) :
    Memory.read (Memory.writeBytes m base bs) a
      = if base ≤ a ∧ a < base + bs.length then bs.getD (a - base) 0x00 else Memory.read m a := by
  induction bs generalizing m base with
  | nil =>
    have : ¬ (base ≤ a ∧ a < base + ([] : List Byte).length) := by simp
    rw [if_neg this]; rfl
  | cons b bs ih =>
    rw [Memory.writeBytes, ih, read_write, List.length_cons]
    by_cases h1 : a = base
    · subst h1
      rw [if_neg (by omega), if_pos rfl, if_pos (by omega)]
      simp
    · by_cases h2 : base ≤ a ∧ a < base + (bs.length + 1)
      · rw [if_pos h2, if_pos (by omega)]
        obtain ⟨n, hn⟩ : ∃ n, a - base = n + 1 := ⟨a - base - 1, by omega⟩
        rw [hn, show a - (base + 1) = n by omega]
        simp
      · rw [if_neg h2, if_neg (by omega), if_neg h1]

/-- A buffer built from bytes reads as those bytes, then 0x00. -/
theorem read_ofBytes (bs : List Byte) (a : Nat) : Memory.read (Memory.ofBytes bs) a = bs.getD a 0x00 := by
  rw [Memory.ofBytes, read_writeBytes]
  by_cases h : a < bs.length
  · rw [if_pos (by omega)]; simp
  · rw [if_neg (by omega), read_cleared, List.getD_eq_default _ _ (by omega)]

/-- The whole content of a buffer built from `n` bytes is those bytes. -/
theorem bytes_ofBytes {n : Nat} {bs : List Byte} (h : bs.length = n) : Memory.bytes n (Memory.ofBytes bs) = bs := by
  subst h
  refine List.ext_getElem (by simp [Memory.bytes]) fun i h1 h2 => ?_
  simp only [Memory.bytes, List.getElem_map, List.getElem_range, read_ofBytes]
  simp [h2]

@[simp] theorem length_bytes (n : Nat) (m : Memory) : (Memory.bytes n m).length = n := by simp [Memory.bytes]

theorem getD_bytes (n : Nat) (m : Memory) (i : Nat) (h : i < n) : (Memory.bytes n m).getD i 0x00 = Memory.read m i := by
  simp [Memory.bytes, h]

@[simp] theorem length_cmdReport (c r u : Byte) : (cmdReport c r u).length = txLen := rfl

/-- The report handed over at issue is the command report of the triplet (R86, R111). -/
theorem bytes_cmdReport (c r u : Byte) : Memory.bytes txLen (Memory.ofBytes (cmdReport c r u)) = cmdReport c r u :=
  bytes_ofBytes rfl

theorem getD_replicate_zero (k n : Nat) : (List.replicate k (0x00 : Byte)).getD n 0x00 = 0x00 := by
  by_cases h : n < k
  · simp [h]
  · simp [List.getD_eq_getElem?_getD, h]

/-- The bytes of a command report: the three opcode bytes at 1 to 3, 0x00 elsewhere (R86). -/
theorem getD_cmdReport (c r u : Byte) (i : Nat) :
    (cmdReport c r u).getD i 0x00 = if i = 1 then c else if i = 2 then r else if i = 3 then u else 0x00 := by
  match i with
  | 0 => rfl
  | 1 => rfl
  | 2 => rfl
  | 3 => rfl
  | n + 4 =>
    have : (cmdReport c r u).getD (n + 4) 0x00 = (List.replicate 61 (0x00 : Byte)).getD n 0x00 := by
      simp [cmdReport]
    rw [this, if_neg (by omega), if_neg (by omega), if_neg (by omega)]
    exact getD_replicate_zero 61 n

/-! ### The canonical form -/

theorem wf_cleared (size : Nat) : Memory.wf size Memory.cleared := ⟨List.Pairwise.nil, by simp [Memory.cleared]⟩

theorem wf_erase {size : Nat} {m : Memory} (a : Nat) (h : Memory.wf size m) : Memory.wf size (Memory.erase m a) :=
  ⟨h.1.filter _, fun c hc => h.2 c (List.mem_filter.mp hc).1⟩

theorem mem_insertCell {a : Nat} {v : Byte} {m : Memory} {c : Host.Cell} (h : c ∈ Memory.insertCell a v m) :
    c = (a, v) ∨ c ∈ m := by
  induction m with
  | nil => simpa [Memory.insertCell] using h
  | cons d m ih =>
    rw [Memory.insertCell] at h
    split at h
    · simpa using h
    · rcases List.mem_cons.mp h with h | h
      · exact .inr (by simp [h])
      · rcases ih h with h | h
        · exact .inl h
        · exact .inr (by simp [h])

theorem pairwise_insertCell {a : Nat} {v : Byte} {m : Memory} (hm : m.Pairwise (fun c d => c.1 < d.1))
    (h : ∀ c ∈ m, c.1 ≠ a) : (Memory.insertCell a v m).Pairwise (fun c d => c.1 < d.1) := by
  induction m with
  | nil => simp [Memory.insertCell]
  | cons d m ih =>
    obtain ⟨hd, hm⟩ := List.pairwise_cons.mp hm
    rw [Memory.insertCell]
    split
    · rename_i hlt
      refine List.pairwise_cons.mpr ⟨fun c hc => ?_, List.pairwise_cons.mpr ⟨hd, hm⟩⟩
      rcases List.mem_cons.mp hc with rfl | hc
      · exact hlt
      · exact Nat.lt_trans hlt (hd c hc)
    · rename_i hge
      have hne : d.1 ≠ a := h d (by simp)
      refine List.pairwise_cons.mpr ⟨fun c hc => ?_, ih hm fun c hc => h c (by simp [hc])⟩
      rcases mem_insertCell hc with rfl | hc
      · show d.1 < a
        omega
      · exact hd c hc

/-- A write inside the buffer keeps the canonical form. -/
theorem wf_write {size a : Nat} {m : Memory} (v : Byte) (ha : a < size) (h : Memory.wf size m) :
    Memory.wf size (Memory.write m a v) := by
  unfold Memory.write
  split
  · exact wf_erase a h
  · rename_i hv
    refine ⟨pairwise_insertCell (wf_erase a h).1 (notListed_erase m a), fun c hc => ?_⟩
    rcases mem_insertCell hc with rfl | hc
    · exact ⟨ha, hv⟩
    · exact (wf_erase a h).2 c hc

/-- Writing a run of bytes inside the buffer keeps the canonical form. -/
theorem wf_writeBytes {size base : Nat} {m : Memory} (bs : List Byte) (hb : base + bs.length ≤ size)
    (h : Memory.wf size m) : Memory.wf size (Memory.writeBytes m base bs) := by
  induction bs generalizing m base with
  | nil => exact h
  | cons b bs ih =>
    rw [List.length_cons] at hb
    exact ih (by omega) (wf_write b (by omega) h)

/-- A buffer built from bytes is in canonical form. -/
theorem wf_ofBytes {size : Nat} {bs : List Byte} (h : bs.length ≤ size) : Memory.wf size (Memory.ofBytes bs) :=
  wf_writeBytes bs (by omega) (wf_cleared size)

/-- The buffers of the reset state are in canonical form. -/
theorem wf_reset : Memory.wf txLen State.reset.txb ∧ Memory.wf rxLen State.reset.rxb ∧
    Memory.wf payloadMax State.reset.payload :=
  ⟨wf_cleared _, wf_cleared _, wf_cleared _⟩

/-- Nothing is listed at or past the end of a buffer in canonical form. -/
theorem read_pastEnd {size a : Nat} {m : Memory} (h : Memory.wf size m) (ha : size ≤ a) :
    Memory.read m a = Memory.unlisted :=
  read_of_notListed fun c hc => by have := (h.2 c hc).1; omega

/-- In canonical form a buffer is determined by its bytes. -/
theorem eq_of_read_eq {size size' : Nat} {m m' : Memory} (h : Memory.wf size m) (h' : Memory.wf size' m')
    (hr : ∀ a, Memory.read m a = Memory.read m' a) : m = m' := by
  induction m generalizing m' with
  | nil =>
    cases m' with
    | nil => rfl
    | cons c m' =>
      have := hr c.1
      rw [read_nil, show Memory.read (c :: m') c.1 = c.2 by simp [Memory.read]] at this
      exact absurd this.symm (h'.2 c (by simp)).2
  | cons c m ih =>
    have hc : Memory.read (c :: m) c.1 = c.2 := by simp [Memory.read]
    cases m' with
    | nil =>
      have := hr c.1
      rw [hc, read_nil] at this
      exact absurd this (h.2 c (by simp)).2
    | cons d m' =>
      have hd : Memory.read (d :: m') d.1 = d.2 := by simp [Memory.read]
      obtain ⟨hcm, hm⟩ := List.pairwise_cons.mp h.1
      obtain ⟨hdm, hm'⟩ := List.pairwise_cons.mp h'.1
      have hkey : c.1 = d.1 := by
        rcases Nat.lt_trichotomy c.1 d.1 with hlt | heq | hgt
        · have hn : Memory.read (d :: m') c.1 = Memory.unlisted := by
            refine read_of_notListed fun e he => ?_
            rcases List.mem_cons.mp he with rfl | he
            · omega
            · have := hdm e he; omega
          exact absurd ((hc.symm.trans (hr c.1)).trans hn) (h.2 c (by simp)).2
        · exact heq
        · have hn : Memory.read (c :: m) d.1 = Memory.unlisted := by
            refine read_of_notListed fun e he => ?_
            rcases List.mem_cons.mp he with rfl | he
            · omega
            · have := hcm e he; omega
          exact absurd ((hd.symm.trans (hr d.1).symm).trans hn) (h'.2 d (by simp)).2
      have hcd : c = d := by
        refine Prod.ext hkey ?_
        rw [← hc, ← hd, hr c.1, hkey]
      subst hcd
      have htail : m = m' := by
        refine ih ⟨hm, fun e he => h.2 e (by simp [he])⟩ ⟨hm', fun e he => h'.2 e (by simp [he])⟩ fun a => ?_
        by_cases ha : c.1 = a
        · subst ha
          rw [read_of_notListed (m := m) fun e he => by have := hcm e he; omega,
            read_of_notListed (m := m') fun e he => by have := hdm e he; omega]
        · have := hr a
          rwa [show Memory.read (c :: m) a = Memory.read m a by simp [Memory.read, ha],
            show Memory.read (c :: m') a = Memory.read m' a by simp [Memory.read, ha]] at this
      rw [htail]

end Sys2Proof.Machine
end

