-- ==== Sys2Proof/Laws/State.lean ====
section
/-! SUPPORT. What each named update leaves in each field of the state: one lemma a field and an update, all by rfl. -/

namespace Sys2Proof.Machine

/-! ### writeTriplet -/

@[simp] theorem writeTriplet_cmd (v : Word) (s : State) : (writeTriplet v s).cmd = v.extractLsb' 0 8 := rfl
@[simp] theorem writeTriplet_reg (v : Word) (s : State) : (writeTriplet v s).reg = v.extractLsb' 8 8 := rfl
@[simp] theorem writeTriplet_sub (v : Word) (s : State) : (writeTriplet v s).sub = v.extractLsb' 16 8 := rfl
@[simp] theorem writeTriplet_len (v : Word) (s : State) : (writeTriplet v s).len = s.len := rfl
@[simp] theorem writeTriplet_elen (v : Word) (s : State) : (writeTriplet v s).elen = s.elen := rfl
@[simp] theorem writeTriplet_phase (v : Word) (s : State) : (writeTriplet v s).phase = s.phase := rfl
@[simp] theorem writeTriplet_pvalid (v : Word) (s : State) : (writeTriplet v s).pvalid = s.pvalid := rfl
@[simp] theorem writeTriplet_xfail (v : Word) (s : State) : (writeTriplet v s).xfail = s.xfail := rfl
@[simp] theorem writeTriplet_err (v : Word) (s : State) : (writeTriplet v s).err = s.err := rfl
@[simp] theorem writeTriplet_txcnt (v : Word) (s : State) : (writeTriplet v s).txcnt = s.txcnt := rfl
@[simp] theorem writeTriplet_rxcnt (v : Word) (s : State) : (writeTriplet v s).rxcnt = s.rxcnt := rfl
@[simp] theorem writeTriplet_plen (v : Word) (s : State) : (writeTriplet v s).plen = s.plen := rfl
@[simp] theorem writeTriplet_txb (v : Word) (s : State) : (writeTriplet v s).txb = s.txb := rfl
@[simp] theorem writeTriplet_rxb (v : Word) (s : State) : (writeTriplet v s).rxb = s.rxb := rfl
@[simp] theorem writeTriplet_payload (v : Word) (s : State) : (writeTriplet v s).payload = s.payload := rfl
@[simp] theorem writeTriplet_raw (v : Word) (s : State) : (writeTriplet v s).raw = s.raw := rfl
@[simp] theorem writeTriplet_fres (v : Word) (s : State) : (writeTriplet v s).fres = s.fres := rfl
@[simp] theorem writeTriplet_ures (v : Word) (s : State) : (writeTriplet v s).ures = s.ures := rfl
@[simp] theorem writeTriplet_sent (v : Word) (s : State) : (writeTriplet v s).sent = s.sent := rfl
@[simp] theorem writeTriplet_abandoned (v : Word) (s : State) : (writeTriplet v s).abandoned = s.abandoned := rfl
@[simp] theorem writeTriplet_channel (v : Word) (s : State) : (writeTriplet v s).channel = s.channel := rfl
@[simp] theorem writeTriplet_program (v : Word) (s : State) : (writeTriplet v s).program = s.program := rfl
@[simp] theorem writeTriplet_reads (v : Word) (s : State) : (writeTriplet v s).reads = s.reads := rfl
@[simp] theorem writeTriplet_stopped (v : Word) (s : State) : (writeTriplet v s).stopped = s.stopped := rfl
@[simp] theorem writeTriplet_run (v : Word) (s : State) : (writeTriplet v s).run = s.run := rfl
@[simp] theorem writeTriplet_inputs (v : Word) (s : State) : (writeTriplet v s).inputs = s.inputs := rfl
@[simp] theorem writeTriplet_params (v : Word) (s : State) : (writeTriplet v s).params = s.params := rfl

/-! ### writeLen -/

@[simp] theorem writeLen_cmd (v : Word) (s : State) : (writeLen v s).cmd = s.cmd := rfl
@[simp] theorem writeLen_reg (v : Word) (s : State) : (writeLen v s).reg = s.reg := rfl
@[simp] theorem writeLen_sub (v : Word) (s : State) : (writeLen v s).sub = s.sub := rfl
@[simp] theorem writeLen_len (v : Word) (s : State) : (writeLen v s).len = v.extractLsb' 0 8 := rfl
@[simp] theorem writeLen_elen (v : Word) (s : State) : (writeLen v s).elen = s.elen := rfl
@[simp] theorem writeLen_phase (v : Word) (s : State) : (writeLen v s).phase = s.phase := rfl
@[simp] theorem writeLen_pvalid (v : Word) (s : State) : (writeLen v s).pvalid = s.pvalid := rfl
@[simp] theorem writeLen_xfail (v : Word) (s : State) : (writeLen v s).xfail = s.xfail := rfl
@[simp] theorem writeLen_err (v : Word) (s : State) : (writeLen v s).err = s.err := rfl
@[simp] theorem writeLen_txcnt (v : Word) (s : State) : (writeLen v s).txcnt = s.txcnt := rfl
@[simp] theorem writeLen_rxcnt (v : Word) (s : State) : (writeLen v s).rxcnt = s.rxcnt := rfl
@[simp] theorem writeLen_plen (v : Word) (s : State) : (writeLen v s).plen = s.plen := rfl
@[simp] theorem writeLen_txb (v : Word) (s : State) : (writeLen v s).txb = s.txb := rfl
@[simp] theorem writeLen_rxb (v : Word) (s : State) : (writeLen v s).rxb = s.rxb := rfl
@[simp] theorem writeLen_payload (v : Word) (s : State) : (writeLen v s).payload = s.payload := rfl
@[simp] theorem writeLen_raw (v : Word) (s : State) : (writeLen v s).raw = s.raw := rfl
@[simp] theorem writeLen_fres (v : Word) (s : State) : (writeLen v s).fres = s.fres := rfl
@[simp] theorem writeLen_ures (v : Word) (s : State) : (writeLen v s).ures = s.ures := rfl
@[simp] theorem writeLen_sent (v : Word) (s : State) : (writeLen v s).sent = s.sent := rfl
@[simp] theorem writeLen_abandoned (v : Word) (s : State) : (writeLen v s).abandoned = s.abandoned := rfl
@[simp] theorem writeLen_channel (v : Word) (s : State) : (writeLen v s).channel = s.channel := rfl
@[simp] theorem writeLen_program (v : Word) (s : State) : (writeLen v s).program = s.program := rfl
@[simp] theorem writeLen_reads (v : Word) (s : State) : (writeLen v s).reads = s.reads := rfl
@[simp] theorem writeLen_stopped (v : Word) (s : State) : (writeLen v s).stopped = s.stopped := rfl
@[simp] theorem writeLen_run (v : Word) (s : State) : (writeLen v s).run = s.run := rfl
@[simp] theorem writeLen_inputs (v : Word) (s : State) : (writeLen v s).inputs = s.inputs := rfl
@[simp] theorem writeLen_params (v : Word) (s : State) : (writeLen v s).params = s.params := rfl

/-! ### writeRaw -/

@[simp] theorem writeRaw_cmd (v : Word) (s : State) : (writeRaw v s).cmd = s.cmd := rfl
@[simp] theorem writeRaw_reg (v : Word) (s : State) : (writeRaw v s).reg = s.reg := rfl
@[simp] theorem writeRaw_sub (v : Word) (s : State) : (writeRaw v s).sub = s.sub := rfl
@[simp] theorem writeRaw_len (v : Word) (s : State) : (writeRaw v s).len = s.len := rfl
@[simp] theorem writeRaw_elen (v : Word) (s : State) : (writeRaw v s).elen = s.elen := rfl
@[simp] theorem writeRaw_phase (v : Word) (s : State) : (writeRaw v s).phase = s.phase := rfl
@[simp] theorem writeRaw_pvalid (v : Word) (s : State) : (writeRaw v s).pvalid = s.pvalid := rfl
@[simp] theorem writeRaw_xfail (v : Word) (s : State) : (writeRaw v s).xfail = s.xfail := rfl
@[simp] theorem writeRaw_err (v : Word) (s : State) : (writeRaw v s).err = s.err := rfl
@[simp] theorem writeRaw_txcnt (v : Word) (s : State) : (writeRaw v s).txcnt = s.txcnt := rfl
@[simp] theorem writeRaw_rxcnt (v : Word) (s : State) : (writeRaw v s).rxcnt = s.rxcnt := rfl
@[simp] theorem writeRaw_plen (v : Word) (s : State) : (writeRaw v s).plen = s.plen := rfl
@[simp] theorem writeRaw_txb (v : Word) (s : State) : (writeRaw v s).txb = s.txb := rfl
@[simp] theorem writeRaw_rxb (v : Word) (s : State) : (writeRaw v s).rxb = s.rxb := rfl
@[simp] theorem writeRaw_payload (v : Word) (s : State) : (writeRaw v s).payload = s.payload := rfl
@[simp] theorem writeRaw_raw (v : Word) (s : State) : (writeRaw v s).raw = v := rfl
@[simp] theorem writeRaw_fres (v : Word) (s : State) : (writeRaw v s).fres = s.fres := rfl
@[simp] theorem writeRaw_ures (v : Word) (s : State) : (writeRaw v s).ures = s.ures := rfl
@[simp] theorem writeRaw_sent (v : Word) (s : State) : (writeRaw v s).sent = s.sent := rfl
@[simp] theorem writeRaw_abandoned (v : Word) (s : State) : (writeRaw v s).abandoned = s.abandoned := rfl
@[simp] theorem writeRaw_channel (v : Word) (s : State) : (writeRaw v s).channel = s.channel := rfl
@[simp] theorem writeRaw_program (v : Word) (s : State) : (writeRaw v s).program = s.program := rfl
@[simp] theorem writeRaw_reads (v : Word) (s : State) : (writeRaw v s).reads = s.reads := rfl
@[simp] theorem writeRaw_stopped (v : Word) (s : State) : (writeRaw v s).stopped = s.stopped := rfl
@[simp] theorem writeRaw_run (v : Word) (s : State) : (writeRaw v s).run = s.run := rfl
@[simp] theorem writeRaw_inputs (v : Word) (s : State) : (writeRaw v s).inputs = s.inputs := rfl
@[simp] theorem writeRaw_params (v : Word) (s : State) : (writeRaw v s).params = s.params := rfl

/-! ### writeFres -/

@[simp] theorem writeFres_cmd (v : DWord) (s : State) : (writeFres v s).cmd = s.cmd := rfl
@[simp] theorem writeFres_reg (v : DWord) (s : State) : (writeFres v s).reg = s.reg := rfl
@[simp] theorem writeFres_sub (v : DWord) (s : State) : (writeFres v s).sub = s.sub := rfl
@[simp] theorem writeFres_len (v : DWord) (s : State) : (writeFres v s).len = s.len := rfl
@[simp] theorem writeFres_elen (v : DWord) (s : State) : (writeFres v s).elen = s.elen := rfl
@[simp] theorem writeFres_phase (v : DWord) (s : State) : (writeFres v s).phase = s.phase := rfl
@[simp] theorem writeFres_pvalid (v : DWord) (s : State) : (writeFres v s).pvalid = s.pvalid := rfl
@[simp] theorem writeFres_xfail (v : DWord) (s : State) : (writeFres v s).xfail = s.xfail := rfl
@[simp] theorem writeFres_err (v : DWord) (s : State) : (writeFres v s).err = s.err := rfl
@[simp] theorem writeFres_txcnt (v : DWord) (s : State) : (writeFres v s).txcnt = s.txcnt := rfl
@[simp] theorem writeFres_rxcnt (v : DWord) (s : State) : (writeFres v s).rxcnt = s.rxcnt := rfl
@[simp] theorem writeFres_plen (v : DWord) (s : State) : (writeFres v s).plen = s.plen := rfl
@[simp] theorem writeFres_txb (v : DWord) (s : State) : (writeFres v s).txb = s.txb := rfl
@[simp] theorem writeFres_rxb (v : DWord) (s : State) : (writeFres v s).rxb = s.rxb := rfl
@[simp] theorem writeFres_payload (v : DWord) (s : State) : (writeFres v s).payload = s.payload := rfl
@[simp] theorem writeFres_raw (v : DWord) (s : State) : (writeFres v s).raw = s.raw := rfl
@[simp] theorem writeFres_fres (v : DWord) (s : State) : (writeFres v s).fres = v := rfl
@[simp] theorem writeFres_ures (v : DWord) (s : State) : (writeFres v s).ures = s.ures := rfl
@[simp] theorem writeFres_sent (v : DWord) (s : State) : (writeFres v s).sent = s.sent := rfl
@[simp] theorem writeFres_abandoned (v : DWord) (s : State) : (writeFres v s).abandoned = s.abandoned := rfl
@[simp] theorem writeFres_channel (v : DWord) (s : State) : (writeFres v s).channel = s.channel := rfl
@[simp] theorem writeFres_program (v : DWord) (s : State) : (writeFres v s).program = s.program := rfl
@[simp] theorem writeFres_reads (v : DWord) (s : State) : (writeFres v s).reads = s.reads := rfl
@[simp] theorem writeFres_stopped (v : DWord) (s : State) : (writeFres v s).stopped = s.stopped := rfl
@[simp] theorem writeFres_run (v : DWord) (s : State) : (writeFres v s).run = s.run := rfl
@[simp] theorem writeFres_inputs (v : DWord) (s : State) : (writeFres v s).inputs = s.inputs := rfl
@[simp] theorem writeFres_params (v : DWord) (s : State) : (writeFres v s).params = s.params := rfl

/-! ### writeUres -/

@[simp] theorem writeUres_cmd (v : Word) (s : State) : (writeUres v s).cmd = s.cmd := rfl
@[simp] theorem writeUres_reg (v : Word) (s : State) : (writeUres v s).reg = s.reg := rfl
@[simp] theorem writeUres_sub (v : Word) (s : State) : (writeUres v s).sub = s.sub := rfl
@[simp] theorem writeUres_len (v : Word) (s : State) : (writeUres v s).len = s.len := rfl
@[simp] theorem writeUres_elen (v : Word) (s : State) : (writeUres v s).elen = s.elen := rfl
@[simp] theorem writeUres_phase (v : Word) (s : State) : (writeUres v s).phase = s.phase := rfl
@[simp] theorem writeUres_pvalid (v : Word) (s : State) : (writeUres v s).pvalid = s.pvalid := rfl
@[simp] theorem writeUres_xfail (v : Word) (s : State) : (writeUres v s).xfail = s.xfail := rfl
@[simp] theorem writeUres_err (v : Word) (s : State) : (writeUres v s).err = s.err := rfl
@[simp] theorem writeUres_txcnt (v : Word) (s : State) : (writeUres v s).txcnt = s.txcnt := rfl
@[simp] theorem writeUres_rxcnt (v : Word) (s : State) : (writeUres v s).rxcnt = s.rxcnt := rfl
@[simp] theorem writeUres_plen (v : Word) (s : State) : (writeUres v s).plen = s.plen := rfl
@[simp] theorem writeUres_txb (v : Word) (s : State) : (writeUres v s).txb = s.txb := rfl
@[simp] theorem writeUres_rxb (v : Word) (s : State) : (writeUres v s).rxb = s.rxb := rfl
@[simp] theorem writeUres_payload (v : Word) (s : State) : (writeUres v s).payload = s.payload := rfl
@[simp] theorem writeUres_raw (v : Word) (s : State) : (writeUres v s).raw = s.raw := rfl
@[simp] theorem writeUres_fres (v : Word) (s : State) : (writeUres v s).fres = s.fres := rfl
@[simp] theorem writeUres_ures (v : Word) (s : State) : (writeUres v s).ures = v := rfl
@[simp] theorem writeUres_sent (v : Word) (s : State) : (writeUres v s).sent = s.sent := rfl
@[simp] theorem writeUres_abandoned (v : Word) (s : State) : (writeUres v s).abandoned = s.abandoned := rfl
@[simp] theorem writeUres_channel (v : Word) (s : State) : (writeUres v s).channel = s.channel := rfl
@[simp] theorem writeUres_program (v : Word) (s : State) : (writeUres v s).program = s.program := rfl
@[simp] theorem writeUres_reads (v : Word) (s : State) : (writeUres v s).reads = s.reads := rfl
@[simp] theorem writeUres_stopped (v : Word) (s : State) : (writeUres v s).stopped = s.stopped := rfl
@[simp] theorem writeUres_run (v : Word) (s : State) : (writeUres v s).run = s.run := rfl
@[simp] theorem writeUres_inputs (v : Word) (s : State) : (writeUres v s).inputs = s.inputs := rfl
@[simp] theorem writeUres_params (v : Word) (s : State) : (writeUres v s).params = s.params := rfl

/-! ### setProgram -/

@[simp] theorem setProgram_cmd (p : List HostAction) (s : State) : (setProgram p s).cmd = s.cmd := rfl
@[simp] theorem setProgram_reg (p : List HostAction) (s : State) : (setProgram p s).reg = s.reg := rfl
@[simp] theorem setProgram_sub (p : List HostAction) (s : State) : (setProgram p s).sub = s.sub := rfl
@[simp] theorem setProgram_len (p : List HostAction) (s : State) : (setProgram p s).len = s.len := rfl
@[simp] theorem setProgram_elen (p : List HostAction) (s : State) : (setProgram p s).elen = s.elen := rfl
@[simp] theorem setProgram_phase (p : List HostAction) (s : State) : (setProgram p s).phase = s.phase := rfl
@[simp] theorem setProgram_pvalid (p : List HostAction) (s : State) : (setProgram p s).pvalid = s.pvalid := rfl
@[simp] theorem setProgram_xfail (p : List HostAction) (s : State) : (setProgram p s).xfail = s.xfail := rfl
@[simp] theorem setProgram_err (p : List HostAction) (s : State) : (setProgram p s).err = s.err := rfl
@[simp] theorem setProgram_txcnt (p : List HostAction) (s : State) : (setProgram p s).txcnt = s.txcnt := rfl
@[simp] theorem setProgram_rxcnt (p : List HostAction) (s : State) : (setProgram p s).rxcnt = s.rxcnt := rfl
@[simp] theorem setProgram_plen (p : List HostAction) (s : State) : (setProgram p s).plen = s.plen := rfl
@[simp] theorem setProgram_txb (p : List HostAction) (s : State) : (setProgram p s).txb = s.txb := rfl
@[simp] theorem setProgram_rxb (p : List HostAction) (s : State) : (setProgram p s).rxb = s.rxb := rfl
@[simp] theorem setProgram_payload (p : List HostAction) (s : State) : (setProgram p s).payload = s.payload := rfl
@[simp] theorem setProgram_raw (p : List HostAction) (s : State) : (setProgram p s).raw = s.raw := rfl
@[simp] theorem setProgram_fres (p : List HostAction) (s : State) : (setProgram p s).fres = s.fres := rfl
@[simp] theorem setProgram_ures (p : List HostAction) (s : State) : (setProgram p s).ures = s.ures := rfl
@[simp] theorem setProgram_sent (p : List HostAction) (s : State) : (setProgram p s).sent = s.sent := rfl
@[simp] theorem setProgram_abandoned (p : List HostAction) (s : State) : (setProgram p s).abandoned = s.abandoned := rfl
@[simp] theorem setProgram_channel (p : List HostAction) (s : State) : (setProgram p s).channel = s.channel := rfl
@[simp] theorem setProgram_program (p : List HostAction) (s : State) : (setProgram p s).program = p := rfl
@[simp] theorem setProgram_reads (p : List HostAction) (s : State) : (setProgram p s).reads = s.reads := rfl
@[simp] theorem setProgram_stopped (p : List HostAction) (s : State) : (setProgram p s).stopped = s.stopped := rfl
@[simp] theorem setProgram_run (p : List HostAction) (s : State) : (setProgram p s).run = s.run := rfl
@[simp] theorem setProgram_inputs (p : List HostAction) (s : State) : (setProgram p s).inputs = s.inputs := rfl
@[simp] theorem setProgram_params (p : List HostAction) (s : State) : (setProgram p s).params = s.params := rfl

/-! ### setRun -/

@[simp] theorem setRun_cmd (r : Option SnapshotRun) (s : State) : (setRun r s).cmd = s.cmd := rfl
@[simp] theorem setRun_reg (r : Option SnapshotRun) (s : State) : (setRun r s).reg = s.reg := rfl
@[simp] theorem setRun_sub (r : Option SnapshotRun) (s : State) : (setRun r s).sub = s.sub := rfl
@[simp] theorem setRun_len (r : Option SnapshotRun) (s : State) : (setRun r s).len = s.len := rfl
@[simp] theorem setRun_elen (r : Option SnapshotRun) (s : State) : (setRun r s).elen = s.elen := rfl
@[simp] theorem setRun_phase (r : Option SnapshotRun) (s : State) : (setRun r s).phase = s.phase := rfl
@[simp] theorem setRun_pvalid (r : Option SnapshotRun) (s : State) : (setRun r s).pvalid = s.pvalid := rfl
@[simp] theorem setRun_xfail (r : Option SnapshotRun) (s : State) : (setRun r s).xfail = s.xfail := rfl
@[simp] theorem setRun_err (r : Option SnapshotRun) (s : State) : (setRun r s).err = s.err := rfl
@[simp] theorem setRun_txcnt (r : Option SnapshotRun) (s : State) : (setRun r s).txcnt = s.txcnt := rfl
@[simp] theorem setRun_rxcnt (r : Option SnapshotRun) (s : State) : (setRun r s).rxcnt = s.rxcnt := rfl
@[simp] theorem setRun_plen (r : Option SnapshotRun) (s : State) : (setRun r s).plen = s.plen := rfl
@[simp] theorem setRun_txb (r : Option SnapshotRun) (s : State) : (setRun r s).txb = s.txb := rfl
@[simp] theorem setRun_rxb (r : Option SnapshotRun) (s : State) : (setRun r s).rxb = s.rxb := rfl
@[simp] theorem setRun_payload (r : Option SnapshotRun) (s : State) : (setRun r s).payload = s.payload := rfl
@[simp] theorem setRun_raw (r : Option SnapshotRun) (s : State) : (setRun r s).raw = s.raw := rfl
@[simp] theorem setRun_fres (r : Option SnapshotRun) (s : State) : (setRun r s).fres = s.fres := rfl
@[simp] theorem setRun_ures (r : Option SnapshotRun) (s : State) : (setRun r s).ures = s.ures := rfl
@[simp] theorem setRun_sent (r : Option SnapshotRun) (s : State) : (setRun r s).sent = s.sent := rfl
@[simp] theorem setRun_abandoned (r : Option SnapshotRun) (s : State) : (setRun r s).abandoned = s.abandoned := rfl
@[simp] theorem setRun_channel (r : Option SnapshotRun) (s : State) : (setRun r s).channel = s.channel := rfl
@[simp] theorem setRun_program (r : Option SnapshotRun) (s : State) : (setRun r s).program = s.program := rfl
@[simp] theorem setRun_reads (r : Option SnapshotRun) (s : State) : (setRun r s).reads = s.reads := rfl
@[simp] theorem setRun_stopped (r : Option SnapshotRun) (s : State) : (setRun r s).stopped = s.stopped := rfl
@[simp] theorem setRun_run (r : Option SnapshotRun) (s : State) : (setRun r s).run = r := rfl
@[simp] theorem setRun_inputs (r : Option SnapshotRun) (s : State) : (setRun r s).inputs = s.inputs := rfl
@[simp] theorem setRun_params (r : Option SnapshotRun) (s : State) : (setRun r s).params = s.params := rfl

/-! ### setInputs -/

@[simp] theorem setInputs_cmd (i : List Input) (s : State) : (setInputs i s).cmd = s.cmd := rfl
@[simp] theorem setInputs_reg (i : List Input) (s : State) : (setInputs i s).reg = s.reg := rfl
@[simp] theorem setInputs_sub (i : List Input) (s : State) : (setInputs i s).sub = s.sub := rfl
@[simp] theorem setInputs_len (i : List Input) (s : State) : (setInputs i s).len = s.len := rfl
@[simp] theorem setInputs_elen (i : List Input) (s : State) : (setInputs i s).elen = s.elen := rfl
@[simp] theorem setInputs_phase (i : List Input) (s : State) : (setInputs i s).phase = s.phase := rfl
@[simp] theorem setInputs_pvalid (i : List Input) (s : State) : (setInputs i s).pvalid = s.pvalid := rfl
@[simp] theorem setInputs_xfail (i : List Input) (s : State) : (setInputs i s).xfail = s.xfail := rfl
@[simp] theorem setInputs_err (i : List Input) (s : State) : (setInputs i s).err = s.err := rfl
@[simp] theorem setInputs_txcnt (i : List Input) (s : State) : (setInputs i s).txcnt = s.txcnt := rfl
@[simp] theorem setInputs_rxcnt (i : List Input) (s : State) : (setInputs i s).rxcnt = s.rxcnt := rfl
@[simp] theorem setInputs_plen (i : List Input) (s : State) : (setInputs i s).plen = s.plen := rfl
@[simp] theorem setInputs_txb (i : List Input) (s : State) : (setInputs i s).txb = s.txb := rfl
@[simp] theorem setInputs_rxb (i : List Input) (s : State) : (setInputs i s).rxb = s.rxb := rfl
@[simp] theorem setInputs_payload (i : List Input) (s : State) : (setInputs i s).payload = s.payload := rfl
@[simp] theorem setInputs_raw (i : List Input) (s : State) : (setInputs i s).raw = s.raw := rfl
@[simp] theorem setInputs_fres (i : List Input) (s : State) : (setInputs i s).fres = s.fres := rfl
@[simp] theorem setInputs_ures (i : List Input) (s : State) : (setInputs i s).ures = s.ures := rfl
@[simp] theorem setInputs_sent (i : List Input) (s : State) : (setInputs i s).sent = s.sent := rfl
@[simp] theorem setInputs_abandoned (i : List Input) (s : State) : (setInputs i s).abandoned = s.abandoned := rfl
@[simp] theorem setInputs_channel (i : List Input) (s : State) : (setInputs i s).channel = s.channel := rfl
@[simp] theorem setInputs_program (i : List Input) (s : State) : (setInputs i s).program = s.program := rfl
@[simp] theorem setInputs_reads (i : List Input) (s : State) : (setInputs i s).reads = s.reads := rfl
@[simp] theorem setInputs_stopped (i : List Input) (s : State) : (setInputs i s).stopped = s.stopped := rfl
@[simp] theorem setInputs_run (i : List Input) (s : State) : (setInputs i s).run = s.run := rfl
@[simp] theorem setInputs_inputs (i : List Input) (s : State) : (setInputs i s).inputs = i := rfl
@[simp] theorem setInputs_params (i : List Input) (s : State) : (setInputs i s).params = s.params := rfl

/-! ### logRead -/

@[simp] theorem logRead_cmd (o : Nat) (v : Word) (s : State) : (logRead o v s).cmd = s.cmd := rfl
@[simp] theorem logRead_reg (o : Nat) (v : Word) (s : State) : (logRead o v s).reg = s.reg := rfl
@[simp] theorem logRead_sub (o : Nat) (v : Word) (s : State) : (logRead o v s).sub = s.sub := rfl
@[simp] theorem logRead_len (o : Nat) (v : Word) (s : State) : (logRead o v s).len = s.len := rfl
@[simp] theorem logRead_elen (o : Nat) (v : Word) (s : State) : (logRead o v s).elen = s.elen := rfl
@[simp] theorem logRead_phase (o : Nat) (v : Word) (s : State) : (logRead o v s).phase = s.phase := rfl
@[simp] theorem logRead_pvalid (o : Nat) (v : Word) (s : State) : (logRead o v s).pvalid = s.pvalid := rfl
@[simp] theorem logRead_xfail (o : Nat) (v : Word) (s : State) : (logRead o v s).xfail = s.xfail := rfl
@[simp] theorem logRead_err (o : Nat) (v : Word) (s : State) : (logRead o v s).err = s.err := rfl
@[simp] theorem logRead_txcnt (o : Nat) (v : Word) (s : State) : (logRead o v s).txcnt = s.txcnt := rfl
@[simp] theorem logRead_rxcnt (o : Nat) (v : Word) (s : State) : (logRead o v s).rxcnt = s.rxcnt := rfl
@[simp] theorem logRead_plen (o : Nat) (v : Word) (s : State) : (logRead o v s).plen = s.plen := rfl
@[simp] theorem logRead_txb (o : Nat) (v : Word) (s : State) : (logRead o v s).txb = s.txb := rfl
@[simp] theorem logRead_rxb (o : Nat) (v : Word) (s : State) : (logRead o v s).rxb = s.rxb := rfl
@[simp] theorem logRead_payload (o : Nat) (v : Word) (s : State) : (logRead o v s).payload = s.payload := rfl
@[simp] theorem logRead_raw (o : Nat) (v : Word) (s : State) : (logRead o v s).raw = s.raw := rfl
@[simp] theorem logRead_fres (o : Nat) (v : Word) (s : State) : (logRead o v s).fres = s.fres := rfl
@[simp] theorem logRead_ures (o : Nat) (v : Word) (s : State) : (logRead o v s).ures = s.ures := rfl
@[simp] theorem logRead_sent (o : Nat) (v : Word) (s : State) : (logRead o v s).sent = s.sent := rfl
@[simp] theorem logRead_abandoned (o : Nat) (v : Word) (s : State) : (logRead o v s).abandoned = s.abandoned := rfl
@[simp] theorem logRead_channel (o : Nat) (v : Word) (s : State) : (logRead o v s).channel = s.channel := rfl
@[simp] theorem logRead_program (o : Nat) (v : Word) (s : State) : (logRead o v s).program = s.program := rfl
@[simp] theorem logRead_reads (o : Nat) (v : Word) (s : State) : (logRead o v s).reads = s.reads ++ [(o, v)] := rfl
@[simp] theorem logRead_stopped (o : Nat) (v : Word) (s : State) : (logRead o v s).stopped = s.stopped := rfl
@[simp] theorem logRead_run (o : Nat) (v : Word) (s : State) : (logRead o v s).run = s.run := rfl
@[simp] theorem logRead_inputs (o : Nat) (v : Word) (s : State) : (logRead o v s).inputs = s.inputs := rfl
@[simp] theorem logRead_params (o : Nat) (v : Word) (s : State) : (logRead o v s).params = s.params := rfl

/-! ### stopHost -/

@[simp] theorem stopHost_cmd (e : BitVec 4) (s : State) : (stopHost e s).cmd = s.cmd := rfl
@[simp] theorem stopHost_reg (e : BitVec 4) (s : State) : (stopHost e s).reg = s.reg := rfl
@[simp] theorem stopHost_sub (e : BitVec 4) (s : State) : (stopHost e s).sub = s.sub := rfl
@[simp] theorem stopHost_len (e : BitVec 4) (s : State) : (stopHost e s).len = s.len := rfl
@[simp] theorem stopHost_elen (e : BitVec 4) (s : State) : (stopHost e s).elen = s.elen := rfl
@[simp] theorem stopHost_phase (e : BitVec 4) (s : State) : (stopHost e s).phase = s.phase := rfl
@[simp] theorem stopHost_pvalid (e : BitVec 4) (s : State) : (stopHost e s).pvalid = s.pvalid := rfl
@[simp] theorem stopHost_xfail (e : BitVec 4) (s : State) : (stopHost e s).xfail = s.xfail := rfl
@[simp] theorem stopHost_err (e : BitVec 4) (s : State) : (stopHost e s).err = s.err := rfl
@[simp] theorem stopHost_txcnt (e : BitVec 4) (s : State) : (stopHost e s).txcnt = s.txcnt := rfl
@[simp] theorem stopHost_rxcnt (e : BitVec 4) (s : State) : (stopHost e s).rxcnt = s.rxcnt := rfl
@[simp] theorem stopHost_plen (e : BitVec 4) (s : State) : (stopHost e s).plen = s.plen := rfl
@[simp] theorem stopHost_txb (e : BitVec 4) (s : State) : (stopHost e s).txb = s.txb := rfl
@[simp] theorem stopHost_rxb (e : BitVec 4) (s : State) : (stopHost e s).rxb = s.rxb := rfl
@[simp] theorem stopHost_payload (e : BitVec 4) (s : State) : (stopHost e s).payload = s.payload := rfl
@[simp] theorem stopHost_raw (e : BitVec 4) (s : State) : (stopHost e s).raw = s.raw := rfl
@[simp] theorem stopHost_fres (e : BitVec 4) (s : State) : (stopHost e s).fres = s.fres := rfl
@[simp] theorem stopHost_ures (e : BitVec 4) (s : State) : (stopHost e s).ures = s.ures := rfl
@[simp] theorem stopHost_sent (e : BitVec 4) (s : State) : (stopHost e s).sent = s.sent := rfl
@[simp] theorem stopHost_abandoned (e : BitVec 4) (s : State) : (stopHost e s).abandoned = s.abandoned := rfl
@[simp] theorem stopHost_channel (e : BitVec 4) (s : State) : (stopHost e s).channel = s.channel := rfl
@[simp] theorem stopHost_program (e : BitVec 4) (s : State) : (stopHost e s).program = [] := rfl
@[simp] theorem stopHost_reads (e : BitVec 4) (s : State) : (stopHost e s).reads = s.reads := rfl
@[simp] theorem stopHost_stopped (e : BitVec 4) (s : State) : (stopHost e s).stopped = some e := rfl
@[simp] theorem stopHost_run (e : BitVec 4) (s : State) : (stopHost e s).run = endRun (.failed e) s.run := rfl
@[simp] theorem stopHost_inputs (e : BitVec 4) (s : State) : (stopHost e s).inputs = s.inputs := rfl
@[simp] theorem stopHost_params (e : BitVec 4) (s : State) : (stopHost e s).params = s.params := rfl

/-! ### forgetChannel -/

@[simp] theorem forgetChannel_cmd (s : State) : (forgetChannel s).cmd = s.cmd := rfl
@[simp] theorem forgetChannel_reg (s : State) : (forgetChannel s).reg = s.reg := rfl
@[simp] theorem forgetChannel_sub (s : State) : (forgetChannel s).sub = s.sub := rfl
@[simp] theorem forgetChannel_len (s : State) : (forgetChannel s).len = s.len := rfl
@[simp] theorem forgetChannel_elen (s : State) : (forgetChannel s).elen = s.elen := rfl
@[simp] theorem forgetChannel_phase (s : State) : (forgetChannel s).phase = s.phase := rfl
@[simp] theorem forgetChannel_pvalid (s : State) : (forgetChannel s).pvalid = s.pvalid := rfl
@[simp] theorem forgetChannel_xfail (s : State) : (forgetChannel s).xfail = s.xfail := rfl
@[simp] theorem forgetChannel_err (s : State) : (forgetChannel s).err = s.err := rfl
@[simp] theorem forgetChannel_txcnt (s : State) : (forgetChannel s).txcnt = s.txcnt := rfl
@[simp] theorem forgetChannel_rxcnt (s : State) : (forgetChannel s).rxcnt = s.rxcnt := rfl
@[simp] theorem forgetChannel_plen (s : State) : (forgetChannel s).plen = s.plen := rfl
@[simp] theorem forgetChannel_txb (s : State) : (forgetChannel s).txb = s.txb := rfl
@[simp] theorem forgetChannel_rxb (s : State) : (forgetChannel s).rxb = s.rxb := rfl
@[simp] theorem forgetChannel_payload (s : State) : (forgetChannel s).payload = s.payload := rfl
@[simp] theorem forgetChannel_raw (s : State) : (forgetChannel s).raw = s.raw := rfl
@[simp] theorem forgetChannel_fres (s : State) : (forgetChannel s).fres = s.fres := rfl
@[simp] theorem forgetChannel_ures (s : State) : (forgetChannel s).ures = s.ures := rfl
@[simp] theorem forgetChannel_sent (s : State) : (forgetChannel s).sent = s.sent := rfl
@[simp] theorem forgetChannel_abandoned (s : State) : (forgetChannel s).abandoned = s.abandoned := rfl
@[simp] theorem forgetChannel_channel (s : State) : (forgetChannel s).channel = none := rfl
@[simp] theorem forgetChannel_program (s : State) : (forgetChannel s).program = s.program := rfl
@[simp] theorem forgetChannel_reads (s : State) : (forgetChannel s).reads = s.reads := rfl
@[simp] theorem forgetChannel_stopped (s : State) : (forgetChannel s).stopped = s.stopped := rfl
@[simp] theorem forgetChannel_run (s : State) : (forgetChannel s).run = s.run := rfl
@[simp] theorem forgetChannel_inputs (s : State) : (forgetChannel s).inputs = s.inputs := rfl
@[simp] theorem forgetChannel_params (s : State) : (forgetChannel s).params = s.params := rfl

/-! ### raiseFault -/

@[simp] theorem raiseFault_cmd (e : ErrorKind) (s : State) : (raiseFault e s).cmd = s.cmd := rfl
@[simp] theorem raiseFault_reg (e : ErrorKind) (s : State) : (raiseFault e s).reg = s.reg := rfl
@[simp] theorem raiseFault_sub (e : ErrorKind) (s : State) : (raiseFault e s).sub = s.sub := rfl
@[simp] theorem raiseFault_len (e : ErrorKind) (s : State) : (raiseFault e s).len = s.len := rfl
@[simp] theorem raiseFault_elen (e : ErrorKind) (s : State) : (raiseFault e s).elen = s.elen := rfl
@[simp] theorem raiseFault_phase (e : ErrorKind) (s : State) : (raiseFault e s).phase = .fault := rfl
@[simp] theorem raiseFault_pvalid (e : ErrorKind) (s : State) : (raiseFault e s).pvalid = s.pvalid := rfl
@[simp] theorem raiseFault_xfail (e : ErrorKind) (s : State) : (raiseFault e s).xfail = s.xfail := rfl
@[simp] theorem raiseFault_err (e : ErrorKind) (s : State) : (raiseFault e s).err = e.code := rfl
@[simp] theorem raiseFault_txcnt (e : ErrorKind) (s : State) : (raiseFault e s).txcnt = s.txcnt := rfl
@[simp] theorem raiseFault_rxcnt (e : ErrorKind) (s : State) : (raiseFault e s).rxcnt = s.rxcnt := rfl
@[simp] theorem raiseFault_plen (e : ErrorKind) (s : State) : (raiseFault e s).plen = s.plen := rfl
@[simp] theorem raiseFault_txb (e : ErrorKind) (s : State) : (raiseFault e s).txb = s.txb := rfl
@[simp] theorem raiseFault_rxb (e : ErrorKind) (s : State) : (raiseFault e s).rxb = s.rxb := rfl
@[simp] theorem raiseFault_payload (e : ErrorKind) (s : State) : (raiseFault e s).payload = s.payload := rfl
@[simp] theorem raiseFault_raw (e : ErrorKind) (s : State) : (raiseFault e s).raw = s.raw := rfl
@[simp] theorem raiseFault_fres (e : ErrorKind) (s : State) : (raiseFault e s).fres = s.fres := rfl
@[simp] theorem raiseFault_ures (e : ErrorKind) (s : State) : (raiseFault e s).ures = s.ures := rfl
@[simp] theorem raiseFault_sent (e : ErrorKind) (s : State) : (raiseFault e s).sent = s.sent := rfl
@[simp] theorem raiseFault_abandoned (e : ErrorKind) (s : State) : (raiseFault e s).abandoned = s.abandoned := rfl
@[simp] theorem raiseFault_channel (e : ErrorKind) (s : State) : (raiseFault e s).channel = s.channel := rfl
@[simp] theorem raiseFault_program (e : ErrorKind) (s : State) : (raiseFault e s).program = s.program := rfl
@[simp] theorem raiseFault_reads (e : ErrorKind) (s : State) : (raiseFault e s).reads = s.reads := rfl
@[simp] theorem raiseFault_stopped (e : ErrorKind) (s : State) : (raiseFault e s).stopped = s.stopped := rfl
@[simp] theorem raiseFault_run (e : ErrorKind) (s : State) : (raiseFault e s).run = s.run := rfl
@[simp] theorem raiseFault_inputs (e : ErrorKind) (s : State) : (raiseFault e s).inputs = s.inputs := rfl
@[simp] theorem raiseFault_params (e : ErrorKind) (s : State) : (raiseFault e s).params = s.params := rfl

/-! ### recordWrite -/

@[simp] theorem recordWrite_cmd (n : Nat) (f : Bool) (s : State) : (recordWrite n f s).cmd = s.cmd := rfl
@[simp] theorem recordWrite_reg (n : Nat) (f : Bool) (s : State) : (recordWrite n f s).reg = s.reg := rfl
@[simp] theorem recordWrite_sub (n : Nat) (f : Bool) (s : State) : (recordWrite n f s).sub = s.sub := rfl
@[simp] theorem recordWrite_len (n : Nat) (f : Bool) (s : State) : (recordWrite n f s).len = s.len := rfl
@[simp] theorem recordWrite_elen (n : Nat) (f : Bool) (s : State) : (recordWrite n f s).elen = s.elen := rfl
@[simp] theorem recordWrite_phase (n : Nat) (f : Bool) (s : State) : (recordWrite n f s).phase = s.phase := rfl
@[simp] theorem recordWrite_pvalid (n : Nat) (f : Bool) (s : State) : (recordWrite n f s).pvalid = s.pvalid := rfl
@[simp] theorem recordWrite_xfail (n : Nat) (f : Bool) (s : State) : (recordWrite n f s).xfail = f := rfl
@[simp] theorem recordWrite_err (n : Nat) (f : Bool) (s : State) : (recordWrite n f s).err = s.err := rfl
@[simp] theorem recordWrite_txcnt (n : Nat) (f : Bool) (s : State) : (recordWrite n f s).txcnt = BitVec.ofNat 8 n := rfl
@[simp] theorem recordWrite_rxcnt (n : Nat) (f : Bool) (s : State) : (recordWrite n f s).rxcnt = s.rxcnt := rfl
@[simp] theorem recordWrite_plen (n : Nat) (f : Bool) (s : State) : (recordWrite n f s).plen = s.plen := rfl
@[simp] theorem recordWrite_txb (n : Nat) (f : Bool) (s : State) : (recordWrite n f s).txb = s.txb := rfl
@[simp] theorem recordWrite_rxb (n : Nat) (f : Bool) (s : State) : (recordWrite n f s).rxb = s.rxb := rfl
@[simp] theorem recordWrite_payload (n : Nat) (f : Bool) (s : State) : (recordWrite n f s).payload = s.payload := rfl
@[simp] theorem recordWrite_raw (n : Nat) (f : Bool) (s : State) : (recordWrite n f s).raw = s.raw := rfl
@[simp] theorem recordWrite_fres (n : Nat) (f : Bool) (s : State) : (recordWrite n f s).fres = s.fres := rfl
@[simp] theorem recordWrite_ures (n : Nat) (f : Bool) (s : State) : (recordWrite n f s).ures = s.ures := rfl
@[simp] theorem recordWrite_sent (n : Nat) (f : Bool) (s : State) : (recordWrite n f s).sent = s.sent := rfl
@[simp] theorem recordWrite_abandoned (n : Nat) (f : Bool) (s : State) : (recordWrite n f s).abandoned = s.abandoned := rfl
@[simp] theorem recordWrite_channel (n : Nat) (f : Bool) (s : State) : (recordWrite n f s).channel = s.channel := rfl
@[simp] theorem recordWrite_program (n : Nat) (f : Bool) (s : State) : (recordWrite n f s).program = s.program := rfl
@[simp] theorem recordWrite_reads (n : Nat) (f : Bool) (s : State) : (recordWrite n f s).reads = s.reads := rfl
@[simp] theorem recordWrite_stopped (n : Nat) (f : Bool) (s : State) : (recordWrite n f s).stopped = s.stopped := rfl
@[simp] theorem recordWrite_run (n : Nat) (f : Bool) (s : State) : (recordWrite n f s).run = s.run := rfl
@[simp] theorem recordWrite_inputs (n : Nat) (f : Bool) (s : State) : (recordWrite n f s).inputs = s.inputs := rfl
@[simp] theorem recordWrite_params (n : Nat) (f : Bool) (s : State) : (recordWrite n f s).params = s.params := rfl

/-! ### acceptReport -/

@[simp] theorem acceptReport_cmd (s : State) : (acceptReport s).cmd = s.cmd := rfl
@[simp] theorem acceptReport_reg (s : State) : (acceptReport s).reg = s.reg := rfl
@[simp] theorem acceptReport_sub (s : State) : (acceptReport s).sub = s.sub := rfl
@[simp] theorem acceptReport_len (s : State) : (acceptReport s).len = s.len := rfl
@[simp] theorem acceptReport_elen (s : State) : (acceptReport s).elen = s.elen := rfl
@[simp] theorem acceptReport_phase (s : State) : (acceptReport s).phase = .rx := rfl
@[simp] theorem acceptReport_pvalid (s : State) : (acceptReport s).pvalid = s.pvalid := rfl
@[simp] theorem acceptReport_xfail (s : State) : (acceptReport s).xfail = s.xfail := rfl
@[simp] theorem acceptReport_err (s : State) : (acceptReport s).err = s.err := rfl
@[simp] theorem acceptReport_txcnt (s : State) : (acceptReport s).txcnt = BitVec.ofNat 8 Config.txLen := rfl
@[simp] theorem acceptReport_rxcnt (s : State) : (acceptReport s).rxcnt = s.rxcnt := rfl
@[simp] theorem acceptReport_plen (s : State) : (acceptReport s).plen = s.plen := rfl
@[simp] theorem acceptReport_txb (s : State) : (acceptReport s).txb = s.txb := rfl
@[simp] theorem acceptReport_rxb (s : State) : (acceptReport s).rxb = s.rxb := rfl
@[simp] theorem acceptReport_payload (s : State) : (acceptReport s).payload = s.payload := rfl
@[simp] theorem acceptReport_raw (s : State) : (acceptReport s).raw = s.raw := rfl
@[simp] theorem acceptReport_fres (s : State) : (acceptReport s).fres = s.fres := rfl
@[simp] theorem acceptReport_ures (s : State) : (acceptReport s).ures = s.ures := rfl
@[simp] theorem acceptReport_sent (s : State) : (acceptReport s).sent = s.sent := rfl
@[simp] theorem acceptReport_abandoned (s : State) : (acceptReport s).abandoned = s.abandoned := rfl
@[simp] theorem acceptReport_channel (s : State) : (acceptReport s).channel = s.channel := rfl
@[simp] theorem acceptReport_program (s : State) : (acceptReport s).program = s.program := rfl
@[simp] theorem acceptReport_reads (s : State) : (acceptReport s).reads = s.reads := rfl
@[simp] theorem acceptReport_stopped (s : State) : (acceptReport s).stopped = s.stopped := rfl
@[simp] theorem acceptReport_run (s : State) : (acceptReport s).run = s.run := rfl
@[simp] theorem acceptReport_inputs (s : State) : (acceptReport s).inputs = s.inputs := rfl
@[simp] theorem acceptReport_params (s : State) : (acceptReport s).params = s.params := rfl

/-! ### recordFailedRead -/

@[simp] theorem recordFailedRead_cmd (s : State) : (recordFailedRead s).cmd = s.cmd := rfl
@[simp] theorem recordFailedRead_reg (s : State) : (recordFailedRead s).reg = s.reg := rfl
@[simp] theorem recordFailedRead_sub (s : State) : (recordFailedRead s).sub = s.sub := rfl
@[simp] theorem recordFailedRead_len (s : State) : (recordFailedRead s).len = s.len := rfl
@[simp] theorem recordFailedRead_elen (s : State) : (recordFailedRead s).elen = s.elen := rfl
@[simp] theorem recordFailedRead_phase (s : State) : (recordFailedRead s).phase = s.phase := rfl
@[simp] theorem recordFailedRead_pvalid (s : State) : (recordFailedRead s).pvalid = s.pvalid := rfl
@[simp] theorem recordFailedRead_xfail (s : State) : (recordFailedRead s).xfail = true := rfl
@[simp] theorem recordFailedRead_err (s : State) : (recordFailedRead s).err = s.err := rfl
@[simp] theorem recordFailedRead_txcnt (s : State) : (recordFailedRead s).txcnt = s.txcnt := rfl
@[simp] theorem recordFailedRead_rxcnt (s : State) : (recordFailedRead s).rxcnt = 0 := rfl
@[simp] theorem recordFailedRead_plen (s : State) : (recordFailedRead s).plen = s.plen := rfl
@[simp] theorem recordFailedRead_txb (s : State) : (recordFailedRead s).txb = s.txb := rfl
@[simp] theorem recordFailedRead_rxb (s : State) : (recordFailedRead s).rxb = s.rxb := rfl
@[simp] theorem recordFailedRead_payload (s : State) : (recordFailedRead s).payload = s.payload := rfl
@[simp] theorem recordFailedRead_raw (s : State) : (recordFailedRead s).raw = s.raw := rfl
@[simp] theorem recordFailedRead_fres (s : State) : (recordFailedRead s).fres = s.fres := rfl
@[simp] theorem recordFailedRead_ures (s : State) : (recordFailedRead s).ures = s.ures := rfl
@[simp] theorem recordFailedRead_sent (s : State) : (recordFailedRead s).sent = s.sent := rfl
@[simp] theorem recordFailedRead_abandoned (s : State) : (recordFailedRead s).abandoned = s.abandoned := rfl
@[simp] theorem recordFailedRead_channel (s : State) : (recordFailedRead s).channel = s.channel := rfl
@[simp] theorem recordFailedRead_program (s : State) : (recordFailedRead s).program = s.program := rfl
@[simp] theorem recordFailedRead_reads (s : State) : (recordFailedRead s).reads = s.reads := rfl
@[simp] theorem recordFailedRead_stopped (s : State) : (recordFailedRead s).stopped = s.stopped := rfl
@[simp] theorem recordFailedRead_run (s : State) : (recordFailedRead s).run = s.run := rfl
@[simp] theorem recordFailedRead_inputs (s : State) : (recordFailedRead s).inputs = s.inputs := rfl
@[simp] theorem recordFailedRead_params (s : State) : (recordFailedRead s).params = s.params := rfl

/-! ### storeResponse -/

@[simp] theorem storeResponse_cmd (b : List Byte) (s : State) : (storeResponse b s).cmd = s.cmd := rfl
@[simp] theorem storeResponse_reg (b : List Byte) (s : State) : (storeResponse b s).reg = s.reg := rfl
@[simp] theorem storeResponse_sub (b : List Byte) (s : State) : (storeResponse b s).sub = s.sub := rfl
@[simp] theorem storeResponse_len (b : List Byte) (s : State) : (storeResponse b s).len = s.len := rfl
@[simp] theorem storeResponse_elen (b : List Byte) (s : State) : (storeResponse b s).elen = s.elen := rfl
@[simp] theorem storeResponse_phase (b : List Byte) (s : State) : (storeResponse b s).phase = s.phase := rfl
@[simp] theorem storeResponse_pvalid (b : List Byte) (s : State) : (storeResponse b s).pvalid = s.pvalid := rfl
@[simp] theorem storeResponse_xfail (b : List Byte) (s : State) : (storeResponse b s).xfail = s.xfail := rfl
@[simp] theorem storeResponse_err (b : List Byte) (s : State) : (storeResponse b s).err = s.err := rfl
@[simp] theorem storeResponse_txcnt (b : List Byte) (s : State) : (storeResponse b s).txcnt = s.txcnt := rfl
@[simp] theorem storeResponse_rxcnt (b : List Byte) (s : State) : (storeResponse b s).rxcnt = BitVec.ofNat 8 b.length := rfl
@[simp] theorem storeResponse_plen (b : List Byte) (s : State) : (storeResponse b s).plen = s.plen := rfl
@[simp] theorem storeResponse_txb (b : List Byte) (s : State) : (storeResponse b s).txb = s.txb := rfl
@[simp] theorem storeResponse_rxb (b : List Byte) (s : State) : (storeResponse b s).rxb = Memory.writeBytes s.rxb 0 b := rfl
@[simp] theorem storeResponse_payload (b : List Byte) (s : State) : (storeResponse b s).payload = s.payload := rfl
@[simp] theorem storeResponse_raw (b : List Byte) (s : State) : (storeResponse b s).raw = s.raw := rfl
@[simp] theorem storeResponse_fres (b : List Byte) (s : State) : (storeResponse b s).fres = s.fres := rfl
@[simp] theorem storeResponse_ures (b : List Byte) (s : State) : (storeResponse b s).ures = s.ures := rfl
@[simp] theorem storeResponse_sent (b : List Byte) (s : State) : (storeResponse b s).sent = s.sent := rfl
@[simp] theorem storeResponse_abandoned (b : List Byte) (s : State) : (storeResponse b s).abandoned = s.abandoned := rfl
@[simp] theorem storeResponse_channel (b : List Byte) (s : State) : (storeResponse b s).channel = s.channel := rfl
@[simp] theorem storeResponse_program (b : List Byte) (s : State) : (storeResponse b s).program = s.program := rfl
@[simp] theorem storeResponse_reads (b : List Byte) (s : State) : (storeResponse b s).reads = s.reads := rfl
@[simp] theorem storeResponse_stopped (b : List Byte) (s : State) : (storeResponse b s).stopped = s.stopped := rfl
@[simp] theorem storeResponse_run (b : List Byte) (s : State) : (storeResponse b s).run = s.run := rfl
@[simp] theorem storeResponse_inputs (b : List Byte) (s : State) : (storeResponse b s).inputs = s.inputs := rfl
@[simp] theorem storeResponse_params (b : List Byte) (s : State) : (storeResponse b s).params = s.params := rfl

/-! ### extractPayload -/

@[simp] theorem extractPayload_cmd (s : State) : (extractPayload s).cmd = s.cmd := rfl
@[simp] theorem extractPayload_reg (s : State) : (extractPayload s).reg = s.reg := rfl
@[simp] theorem extractPayload_sub (s : State) : (extractPayload s).sub = s.sub := rfl
@[simp] theorem extractPayload_len (s : State) : (extractPayload s).len = s.len := rfl
@[simp] theorem extractPayload_elen (s : State) : (extractPayload s).elen = s.elen := rfl
@[simp] theorem extractPayload_phase (s : State) : (extractPayload s).phase = .idle := rfl
@[simp] theorem extractPayload_pvalid (s : State) : (extractPayload s).pvalid = true := rfl
@[simp] theorem extractPayload_xfail (s : State) : (extractPayload s).xfail = s.xfail := rfl
@[simp] theorem extractPayload_err (s : State) : (extractPayload s).err = s.err := rfl
@[simp] theorem extractPayload_txcnt (s : State) : (extractPayload s).txcnt = s.txcnt := rfl
@[simp] theorem extractPayload_rxcnt (s : State) : (extractPayload s).rxcnt = s.rxcnt := rfl
@[simp] theorem extractPayload_plen (s : State) : (extractPayload s).plen = BitVec.ofNat 6 (extractLength s) := rfl
@[simp] theorem extractPayload_txb (s : State) : (extractPayload s).txb = s.txb := rfl
@[simp] theorem extractPayload_rxb (s : State) : (extractPayload s).rxb = s.rxb := rfl
@[simp] theorem extractPayload_payload (s : State) : (extractPayload s).payload = Memory.writeBytes s.payload 0 (keptBytes s) := rfl
@[simp] theorem extractPayload_raw (s : State) : (extractPayload s).raw = s.raw := rfl
@[simp] theorem extractPayload_fres (s : State) : (extractPayload s).fres = s.fres := rfl
@[simp] theorem extractPayload_ures (s : State) : (extractPayload s).ures = s.ures := rfl
@[simp] theorem extractPayload_sent (s : State) : (extractPayload s).sent = s.sent := rfl
@[simp] theorem extractPayload_abandoned (s : State) : (extractPayload s).abandoned = s.abandoned := rfl
@[simp] theorem extractPayload_channel (s : State) : (extractPayload s).channel = channelAtEcho s := rfl
@[simp] theorem extractPayload_program (s : State) : (extractPayload s).program = s.program := rfl
@[simp] theorem extractPayload_reads (s : State) : (extractPayload s).reads = s.reads := rfl
@[simp] theorem extractPayload_stopped (s : State) : (extractPayload s).stopped = s.stopped := rfl
@[simp] theorem extractPayload_run (s : State) : (extractPayload s).run = s.run := rfl
@[simp] theorem extractPayload_inputs (s : State) : (extractPayload s).inputs = s.inputs := rfl
@[simp] theorem extractPayload_params (s : State) : (extractPayload s).params = s.params := rfl

/-! ### issueReport -/

@[simp] theorem issueReport_cmd (s : State) : (issueReport s).cmd = s.cmd := rfl
@[simp] theorem issueReport_reg (s : State) : (issueReport s).reg = s.reg := rfl
@[simp] theorem issueReport_sub (s : State) : (issueReport s).sub = s.sub := rfl
@[simp] theorem issueReport_len (s : State) : (issueReport s).len = s.len := rfl
@[simp] theorem issueReport_elen (s : State) : (issueReport s).elen = s.len := rfl
@[simp] theorem issueReport_phase (s : State) : (issueReport s).phase = .tx := rfl
@[simp] theorem issueReport_pvalid (s : State) : (issueReport s).pvalid = false := rfl
@[simp] theorem issueReport_xfail (s : State) : (issueReport s).xfail = false := rfl
@[simp] theorem issueReport_err (s : State) : (issueReport s).err = s.err := rfl
@[simp] theorem issueReport_txcnt (s : State) : (issueReport s).txcnt = 0 := rfl
@[simp] theorem issueReport_rxcnt (s : State) : (issueReport s).rxcnt = 0 := rfl
@[simp] theorem issueReport_plen (s : State) : (issueReport s).plen = 0 := rfl
@[simp] theorem issueReport_txb (s : State) : (issueReport s).txb = Memory.ofBytes (cmdReport s.cmd s.reg s.sub) := by simp only [issueReport]
@[simp] theorem issueReport_rxb (s : State) : (issueReport s).rxb = [] := rfl
@[simp] theorem issueReport_payload (s : State) : (issueReport s).payload = [] := rfl
@[simp] theorem issueReport_raw (s : State) : (issueReport s).raw = s.raw := rfl
@[simp] theorem issueReport_fres (s : State) : (issueReport s).fres = s.fres := rfl
@[simp] theorem issueReport_ures (s : State) : (issueReport s).ures = s.ures := rfl
@[simp] theorem issueReport_sent (s : State) : (issueReport s).sent = s.sent ++ [Memory.bytes Config.txLen (Memory.ofBytes (cmdReport s.cmd s.reg s.sub))] := by simp only [issueReport]
@[simp] theorem issueReport_abandoned (s : State) : (issueReport s).abandoned = s.abandoned := rfl
@[simp] theorem issueReport_channel (s : State) : (issueReport s).channel = channelAtIssue s := rfl
@[simp] theorem issueReport_program (s : State) : (issueReport s).program = s.program := rfl
@[simp] theorem issueReport_reads (s : State) : (issueReport s).reads = s.reads := rfl
@[simp] theorem issueReport_stopped (s : State) : (issueReport s).stopped = s.stopped := rfl
@[simp] theorem issueReport_run (s : State) : (issueReport s).run = s.run := rfl
@[simp] theorem issueReport_inputs (s : State) : (issueReport s).inputs = s.inputs := rfl
@[simp] theorem issueReport_params (s : State) : (issueReport s).params = s.params := rfl

/-! ### resetBlock -/

@[simp] theorem resetBlock_cmd (s : State) : (resetBlock s).cmd = 0 := rfl
@[simp] theorem resetBlock_reg (s : State) : (resetBlock s).reg = 0 := rfl
@[simp] theorem resetBlock_sub (s : State) : (resetBlock s).sub = 0 := rfl
@[simp] theorem resetBlock_len (s : State) : (resetBlock s).len = 0 := rfl
@[simp] theorem resetBlock_elen (s : State) : (resetBlock s).elen = 0 := rfl
@[simp] theorem resetBlock_phase (s : State) : (resetBlock s).phase = .idle := rfl
@[simp] theorem resetBlock_pvalid (s : State) : (resetBlock s).pvalid = false := rfl
@[simp] theorem resetBlock_xfail (s : State) : (resetBlock s).xfail = false := rfl
@[simp] theorem resetBlock_err (s : State) : (resetBlock s).err = 0 := rfl
@[simp] theorem resetBlock_txcnt (s : State) : (resetBlock s).txcnt = 0 := rfl
@[simp] theorem resetBlock_rxcnt (s : State) : (resetBlock s).rxcnt = 0 := rfl
@[simp] theorem resetBlock_plen (s : State) : (resetBlock s).plen = 0 := rfl
@[simp] theorem resetBlock_txb (s : State) : (resetBlock s).txb = [] := rfl
@[simp] theorem resetBlock_rxb (s : State) : (resetBlock s).rxb = [] := rfl
@[simp] theorem resetBlock_payload (s : State) : (resetBlock s).payload = [] := rfl
@[simp] theorem resetBlock_raw (s : State) : (resetBlock s).raw = 0 := rfl
@[simp] theorem resetBlock_fres (s : State) : (resetBlock s).fres = 0 := rfl
@[simp] theorem resetBlock_ures (s : State) : (resetBlock s).ures = 0 := rfl
@[simp] theorem resetBlock_sent (s : State) : (resetBlock s).sent = s.sent := rfl
@[simp] theorem resetBlock_abandoned (s : State) : (resetBlock s).abandoned = s.abandoned ++ (pendingRequest s).toList := rfl
@[simp] theorem resetBlock_channel (s : State) : (resetBlock s).channel = if (pendingRequest s).isSome then none else s.channel := rfl
@[simp] theorem resetBlock_program (s : State) : (resetBlock s).program = s.program := rfl
@[simp] theorem resetBlock_reads (s : State) : (resetBlock s).reads = s.reads := rfl
@[simp] theorem resetBlock_stopped (s : State) : (resetBlock s).stopped = s.stopped := rfl
@[simp] theorem resetBlock_run (s : State) : (resetBlock s).run = s.run := rfl
@[simp] theorem resetBlock_inputs (s : State) : (resetBlock s).inputs = s.inputs := rfl
@[simp] theorem resetBlock_params (s : State) : (resetBlock s).params = s.params := rfl

end Sys2Proof.Machine
end

