-- ==== Sys2Proof/Laws/Ops.lean ====
section
/-! SUPPORT. What each shared operation can do, said once: if it answers a next state, one of these cases holds. Later proofs
cite these and do not unfold the operations. -/

namespace Sys2Proof.Machine

open Sys2Proof.Config

variable {s t : State}

/-! ### TRANSACT -/

theorem transactOp_idle (h : s.phase = .idle) : transactOp s = .next (issueReport s) := by simp [transactOp, h]

theorem transactOp_fault (h : s.phase = .fault) : transactOp s = .next s := by simp [transactOp, h]

theorem transactOp_busy (h : s.phase = .tx ∨ s.phase = .rx) : transactOp s = .refused .transactWhileBusy := by
  rcases h with h | h <;> simp [transactOp, h]

theorem transactOp_next (h : transactOp s = .next t) :
    (s.phase = .idle ∧ t = issueReport s) ∨ (s.phase = .fault ∧ t = s) := by
  unfold transactOp at h
  split at h <;> simp_all

theorem transactOp_ne_fault (f : Fault) : transactOp s ≠ .fault f := nomatch f

/-! ### Transport answers -/

theorem writeAnswer_next {a : Answer} (h : writeAnswer a s = .next t) :
    (a = .accepted txLen ∧ t = acceptReport s) ∨ (∃ n < txLen, a = .accepted n ∧ t = shortWrite n s) ∨
    (a = .fail ∧ t = failedWrite s) := by
  cases a with
  | accepted n =>
    simp only [writeAnswer] at h
    split at h
    · subst n; exact .inl ⟨rfl, by simpa using h.symm⟩
    · split at h
      · exact .inr (.inl ⟨n, ‹_›, rfl, by simpa using h.symm⟩)
      · cases h
  | data b => cases h
  | fail => exact .inr (.inr ⟨rfl, by simpa [writeAnswer] using h.symm⟩)

theorem validate_cases (s : State) :
    (headerMatches s = true ∧ validate s = extractPayload s) ∨ (headerMatches s = false ∧ validate s = mismatch s) := by
  by_cases h : headerMatches s <;> simp [validate, h]

theorem readAnswer_next {a : Answer} (h : readAnswer a s = .next t) :
    (∃ b : List Byte, b.length = rxLen ∧ a = .data b ∧ t = validate (storeResponse b s)) ∨
    (∃ b : List Byte, b.length < rxLen ∧ a = .data b ∧ t = shortRead b s) ∨ (a = .fail ∧ t = failedRead s) := by
  cases a with
  | accepted n => cases h
  | data b =>
    simp only [readAnswer] at h
    split at h
    · exact .inl ⟨b, ‹_›, rfl, by simpa [fullRead] using h.symm⟩
    · split at h
      · exact .inr (.inl ⟨b, ‹_›, rfl, by simpa using h.symm⟩)
      · cases h
  | fail => exact .inr (.inr ⟨rfl, by simpa [readAnswer] using h.symm⟩)

theorem transportAnswer_next {a : Answer} (h : transportAnswer a s = .next t) :
    (s.phase = .tx ∧ writeAnswer a s = .next t) ∨ (s.phase = .rx ∧ readAnswer a s = .next t) := by
  unfold transportAnswer at h
  split at h
  · cases h
  · exact .inl ⟨‹_›, h⟩
  · exact .inr ⟨‹_›, h⟩
  · cases h

theorem lateAnswer_next {a : Answer} (h : lateAnswer a s = .next t) :
    ∃ rs, strikeAbandoned a s.abandoned = some rs ∧ t = { s with abandoned := rs } := by
  unfold lateAnswer at h
  split at h
  · exact ⟨_, ‹_›, by simpa using h.symm⟩
  · cases h

/-- Which abandoned request a late answer strikes: the oldest that admits it. -/
theorem strikeAbandoned_some {a : Answer} {rs qs : List Request} (h : strikeAbandoned a rs = some qs) :
    ∃ older newer q, rs = older ++ q :: newer ∧ admissible q a = true ∧ (∀ p ∈ older, admissible p a = false) ∧
      qs = older ++ newer := by
  induction rs generalizing qs with
  | nil => cases h
  | cons r rs ih =>
    cases hr : admissible r a with
    | true => exact ⟨[], rs, r, rfl, hr, by simp, by simpa [strikeAbandoned, hr] using h.symm⟩
    | false =>
      simp only [strikeAbandoned, hr, Bool.false_eq_true, if_false, Option.map_eq_some_iff] at h
      obtain ⟨ps, hps, rfl⟩ := h
      obtain ⟨older, newer, q, rfl, hq, ho, rfl⟩ := ih hps
      exact ⟨r :: older, newer, q, rfl, hq, by simpa [hr] using ho, rfl⟩

/-! ### Host accesses -/

theorem accessRefusal_none {w : Width} {off : Nat} :
    accessRefusal w off = none ↔ w = .word ∧ off % 4 = 0 ∧ mapped off = true := by
  unfold accessRefusal
  split
  · simp_all
  · split
    · simp_all
    · split <;> simp_all

theorem hostRead_next {w : Width} {off : Nat} (h : hostRead w off s = .next t) :
    accessRefusal w off = none ∧ t = logRead off (windowRead s off) s := by
  unfold hostRead at h
  split at h
  · cases h
  · exact ⟨‹_›, by simpa using h.symm⟩

theorem windowWrite_cases (off : Nat) (v : Word) (s : State) :
    windowWrite off v s = writeTriplet v s ∨ windowWrite off v s = writeLen v s ∨ windowWrite off v s = writeRaw v s ∨
    windowWrite off v s = s := by
  unfold windowWrite
  split
  · exact .inl rfl
  · split
    · exact .inr (.inl rfl)
    · split
      · exact .inr (.inr (.inl rfl))
      · exact .inr (.inr (.inr rfl))

theorem hostWrite_next {w : Width} {off : Nat} {v : Word} (h : hostWrite w off v s = .next t) :
    accessRefusal w off = none ∧ ((off = offCtrl ∧ ctrlWrite v s = .next t) ∨ (off ≠ offCtrl ∧ t = windowWrite off v s)) := by
  unfold hostWrite at h
  split at h
  · cases h
  · refine ⟨‹_›, ?_⟩
    split at h
    · exact .inl ⟨‹_›, h⟩
    · exact .inr ⟨‹_›, by simpa using h.symm⟩

theorem ctrlWrite_next {v : Word} (h : ctrlWrite v s = .next t) :
    ∃ i, decode s.params .ctrl (wordBytes v) = .ok i ∧ exec i s = .next t := by
  unfold ctrlWrite at h
  split at h
  · exact ⟨_, ‹_›, h⟩
  · cases h

/-! ### Instructions -/

/-- The state in which a wire command issues its TRANSACT. -/
def commandSetup (d : Descriptor) (s : State) : State := writeLen d.lenWord (writeTriplet d.word s)

theorem runCommand_next {d : Descriptor} (h : runCommand d s = .next t) :
    ∃ u, transactOp (commandSetup d s) = .next u ∧ t = setProgram (afterIssue d.kind ++ u.program) u := by
  unfold runCommand at h
  split at h
  · rename_i u hu
    exact ⟨u, hu, by simpa using h.symm⟩
  · cases h
  · cases h

/-- Everything an instruction can do to the state: nothing, write one result register, issue a transaction, or carry out a
wire command. -/
theorem exec_next {i : Instr} (h : exec i s = .next t) :
    t = s ∨ (∃ v, t = writeRaw v s) ∨ (∃ v, t = writeFres v s) ∨ (∃ v, t = writeUres v s) ∨ transactOp s = .next t ∨
    ∃ d, runCommand d s = .next t := by
  have command : ∀ d, runCommand d s = .next t → t = s ∨ (∃ v, t = writeRaw v s) ∨ (∃ v, t = writeFres v s) ∨
      (∃ v, t = writeUres v s) ∨ transactOp s = .next t ∨ ∃ d, runCommand d s = .next t :=
    fun d hd => .inr (.inr (.inr (.inr (.inr ⟨d, hd⟩))))
  cases i with
  | nop => exact .inl (by simpa [exec, execNop] using h.symm)
  | transact => exact .inr (.inr (.inr (.inr (.inl h))))
  | decLf16 => exact .inr (.inr (.inl ⟨_, by simpa [exec, execDecLf16] using h.symm⟩))
  | decU32 => exact .inr (.inr (.inr (.inl ⟨_, by simpa [exec, execDecU32] using h.symm⟩)))
  | loadRaw16 => exact .inr (.inl ⟨_, by simpa [exec, execLoadRaw16] using h.symm⟩)
  | loadRaw32 => exact .inr (.inl ⟨_, by simpa [exec, execLoadRaw32] using h.symm⟩)
  | _ => exact command _ h

/-- An instruction of the CTRL format is no wire command. -/
theorem exec_ctrl_next {i : Instr} (hf : i.format = .ctrl) (h : exec i s = .next t) :
    t = s ∨ (∃ v, t = writeRaw v s) ∨ (∃ v, t = writeFres v s) ∨ (∃ v, t = writeUres v s) ∨ transactOp s = .next t := by
  cases i with
  | nop => exact .inl (by simpa [exec, execNop] using h.symm)
  | transact => exact .inr (.inr (.inr (.inr h)))
  | decLf16 => exact .inr (.inr (.inl ⟨_, by simpa [exec, execDecLf16] using h.symm⟩))
  | decU32 => exact .inr (.inr (.inr (.inl ⟨_, by simpa [exec, execDecU32] using h.symm⟩)))
  | loadRaw16 => exact .inr (.inl ⟨_, by simpa [exec, execLoadRaw16] using h.symm⟩)
  | loadRaw32 => exact .inr (.inl ⟨_, by simpa [exec, execLoadRaw32] using h.symm⟩)
  | _ => cases hf

/-! ### The host and the step -/

/-- The end of a row: nothing, one more good row, or the abort of the attempt. -/
theorem endSnapshotRow_cases (w : Triplet) (l : Byte) (s : State) :
    endSnapshotRow w l s = s ∨
    (∃ r, s.run = some r ∧ r.outcome = .running ∧ rowGood w l s = true ∧
      endSnapshotRow w l s = setRun (some { r with rows := r.rows + 1 }) s) ∨
    (∃ r, s.run = some r ∧ r.outcome = .running ∧ rowGood w l s = false ∧
      endSnapshotRow w l s = setRun (some { r with outcome := .lost }) (setProgram [] s)) := by
  unfold endSnapshotRow
  split
  · exact .inl rfl
  · rename_i r hr
    by_cases ho : r.outcome = .running
    · cases hg : rowGood w l s
      · exact .inr (.inr ⟨r, hr, ho, rfl, by simp [ho, hr, endRun]⟩)
      · exact .inr (.inl ⟨r, hr, ho, rfl, by simp [ho]⟩)
    · exact .inl (by simp [ho])

/-- The return of a call: nothing, or the outcome of a call that was running. -/
theorem endSnapshot_cases (s : State) :
    endSnapshot s = s ∨
    ∃ r, s.run = some r ∧ r.outcome = .running ∧ endSnapshot s = setRun (some { r with outcome := snapshotResult r s }) s := by
  unfold endSnapshot
  split
  · exact .inl rfl
  · rename_i r hr
    by_cases ho : r.outcome = .running
    · exact .inr ⟨r, hr, ho, by simp [ho, hr, endRun]⟩
    · refine .inl ?_
      have : endRun (snapshotResult r s) s.run = s.run := by simp [hr, endRun, ho]
      rw [this]
      rfl

/-- What a call returns with is a record only where every row was good. -/
theorem snapshotResult_complete {r : SnapshotRun} {record : Snapshot} (h : snapshotResult r s = .complete record) :
    r.rows = (snapshotRows s.params).length ∧ assembleSnapshot (runValues r s) = some record := by
  unfold snapshotResult at h
  split at h
  · split at h
    · cases h
      exact ⟨‹_›, ‹_›⟩
    · cases h
  · cases h

/-- Everything one host action can do. The last case is the sequencer's, which touches the host's fields alone. -/
theorem hostAct_next {a : HostAction} (h : hostAct a s = .next t) :
    (∃ off, t = logRead off (windowRead s off) s) ∨ (∃ off v, t = windowWrite off v s) ∨ (∃ i, exec i s = .next t) ∨
    t = hostWait s ∨ t = hostCheck s ∨ (∃ d, runCommand d s = .next t) ∨ ∃ p r, t = setRun r (setProgram p s) := by
  cases a with
  | read w off => exact .inl ⟨off, (hostRead_next h).2⟩
  | write w off v =>
    rcases (hostWrite_next h).2 with ⟨-, h⟩ | ⟨-, h⟩
    · obtain ⟨i, -, h⟩ := ctrlWrite_next h
      exact .inr (.inr (.inl ⟨i, h⟩))
    · exact .inr (.inl ⟨off, v, h⟩)
  | wait => exact .inr (.inr (.inr (.inl (by simpa [hostAct] using h.symm))))
  | check => exact .inr (.inr (.inr (.inr (.inl (by simpa [hostAct] using h.symm)))))
  | readSnapshot => exact .inr (.inr (.inr (.inr (.inr (.inr ⟨_, _, (Host.Outcome.next.inj h).symm⟩)))))
  | endRow w l =>
    have ht : t = endSnapshotRow w l s := by simpa [hostAct] using h.symm
    rcases endSnapshotRow_cases w l s with e | ⟨r, -, -, -, e⟩ | ⟨r, -, -, -, e⟩
    · exact .inr (.inr (.inr (.inr (.inr (.inr ⟨s.program, s.run, ht.trans e⟩)))))
    · exact .inr (.inr (.inr (.inr (.inr (.inr ⟨s.program, _, ht.trans e⟩)))))
    · exact .inr (.inr (.inr (.inr (.inr (.inr ⟨[], _, ht.trans e⟩)))))
  | returnSnapshot =>
    have ht : t = endSnapshot s := by simpa [hostAct] using h.symm
    rcases endSnapshot_cases s with e | ⟨r, -, -, e⟩
    · exact .inr (.inr (.inr (.inr (.inr (.inr ⟨s.program, s.run, ht.trans e⟩)))))
    · exact .inr (.inr (.inr (.inr (.inr (.inr ⟨s.program, _, ht.trans e⟩)))))
  | command w =>
    simp only [hostAct, hostCommand] at h
    split at h
    · exact .inr (.inr (.inl ⟨_, h⟩))
    · exact .inr (.inr (.inr (.inr (.inr (.inl ⟨_, h⟩)))))

theorem hostStep_next (h : hostStep s = .next t) :
    (s.program = [] ∧ t = s) ∨ ∃ a rest, s.program = a :: rest ∧ hostAct a (setProgram rest s) = .next t := by
  unfold hostStep at h
  split at h
  · exact .inl ⟨‹_›, by simpa using h.symm⟩
  · exact .inr ⟨_, _, ‹_›, h⟩

/-- What a step of the host makes of the last call of `read_snapshot`: nothing, its failure at a `check`, a new call, the end
of a row, or its return. -/
theorem hostStep_run (h : hostStep s = .next t) :
    t.run = s.run ∨ (∃ e, t.run = endRun (.failed e) s.run) ∨
    ∃ rest, (s.program = .readSnapshot :: rest ∧ t = startSnapshot (setProgram rest s)) ∨
      (∃ w l, s.program = .endRow w l :: rest ∧ t = endSnapshotRow w l (setProgram rest s)) ∨
      (s.program = .returnSnapshot :: rest ∧ t = endSnapshot (setProgram rest s)) := by
  rcases hostStep_next h with ⟨-, rfl⟩ | ⟨a, rest, hp, h⟩
  · exact .inl rfl
  have command {d : Descriptor} (hd : runCommand d (setProgram rest s) = .next t) : t.run = s.run := by
    obtain ⟨u, h1, rfl⟩ := runCommand_next hd
    rcases transactOp_next h1 with ⟨-, rfl⟩ | ⟨-, rfl⟩ <;> rfl
  have instruction {i : Instr} (h : exec i (setProgram rest s) = .next t) : t.run = s.run := by
    rcases exec_next h with rfl | ⟨v, rfl⟩ | ⟨v, rfl⟩ | ⟨v, rfl⟩ | h | ⟨d, hd⟩
    · rfl
    · rfl
    · rfl
    · rfl
    · rcases transactOp_next h with ⟨-, rfl⟩ | ⟨-, rfl⟩ <;> rfl
    · exact command hd
  cases a with
  | read w off => exact .inl (by rw [(hostRead_next h).2]; rfl)
  | write w off v =>
    refine .inl ?_
    rcases (hostWrite_next h).2 with ⟨-, h⟩ | ⟨-, rfl⟩
    · obtain ⟨i, -, h⟩ := ctrlWrite_next h
      exact instruction h
    · rcases windowWrite_cases off v (setProgram rest s) with e | e | e | e <;> rw [e] <;> rfl
  | wait =>
    cases h
    unfold hostWait
    split <;> exact .inl rfl
  | check =>
    cases h
    unfold hostCheck
    split
    · exact .inr (.inl ⟨_, rfl⟩)
    · exact .inl rfl
  | command w =>
    simp only [hostAct, hostCommand] at h
    split at h
    · exact .inl (instruction h)
    · exact .inl (command h)
  | readSnapshot => exact .inr (.inr ⟨rest, .inl ⟨hp, (Host.Outcome.next.inj h).symm⟩⟩)
  | endRow w l => exact .inr (.inr ⟨rest, .inr (.inl ⟨w, l, hp, (Host.Outcome.next.inj h).symm⟩)⟩)
  | returnSnapshot => exact .inr (.inr ⟨rest, .inr (.inr ⟨hp, (Host.Outcome.next.inj h).symm⟩)⟩)

/-- Everything one step can do: the host moves, the Transport answers, a late answer is discarded, or the block is reset. -/
theorem step_next (h : step s = .next t) :
    (s.inputs = [] ∧ hostStep s = .next t) ∨
    (∃ rest, s.inputs = .host :: rest ∧ hostStep (setInputs rest s) = .next t) ∨
    (∃ a rest, s.inputs = .answer a :: rest ∧ transportAnswer a (setInputs rest s) = .next t) ∨
    (∃ a rest, s.inputs = .lateAnswer a :: rest ∧ lateAnswer a (setInputs rest s) = .next t) ∨
    (∃ rest, s.inputs = .reset :: rest ∧ t = resetBlock (setInputs rest s)) := by
  unfold step agentStep at h
  split at h
  · exact .inl ⟨‹_›, h⟩
  · rename_i i rest hi
    cases i with
    | host => exact .inr (.inl ⟨rest, hi, h⟩)
    | answer a => exact .inr (.inr (.inl ⟨a, rest, hi, h⟩))
    | lateAnswer a => exact .inr (.inr (.inr (.inl ⟨a, rest, hi, h⟩)))
    | reset => exact .inr (.inr (.inr (.inr ⟨rest, hi, by simpa [inputStep] using h.symm⟩)))

/-! ### Runs -/

theorem run_zero (s : State) : Host.Core.run Sys2Proof.core 0 s = .next s := rfl

/-- A run of one more step, when its first step answers a next state. -/
theorem run_succ {k : Nat} (h : step s = .next t) :
    Host.Core.run Sys2Proof.core (k + 1) s = Host.Core.run Sys2Proof.core k t := by
  have h' : Sys2Proof.core.step s = .next t := h
  simp only [Host.Core.run, h']

/-- A run of one step is the step. -/
theorem run_one (s : State) : Host.Core.run Sys2Proof.core 1 s = step s := by
  have h : ∀ o : Host.Outcome State Fault Refusal, step s = o → Host.Core.run Sys2Proof.core 1 s = o := by
    intro o ho
    have ho' : Sys2Proof.core.step s = o := ho
    cases o <;> simp only [Host.Core.run, ho'] <;> rfl
  exact h _ rfl

/-- A run of one more step that answers a next state began with a step that did. -/
theorem run_succ_next {k : Nat} (h : Host.Core.run Sys2Proof.core (k + 1) s = .next t) :
    ∃ u : State, step s = .next u ∧ Host.Core.run Sys2Proof.core k u = .next t := by
  simp only [Host.Core.run] at h
  split at h
  · exact ⟨_, ‹_›, h⟩
  · cases h
  · cases h

end Sys2Proof.Machine
end

