-- ==== Sys2Proof/Laws/PerInstr.lean ====
section
/-! SUPPORT. Laws stated of each instruction as syntax. -/

/-- Every instruction's word has exactly the bytes of its format (R80). -/
def Sys2Proof.Laws.EncodingWidth.Statement (i : Sys2Proof.Instr) : Prop :=
  (Sys2Proof.encode i).length = i.format.byteLength

theorem Sys2Proof.Laws.EncodingWidth.nop : Sys2Proof.Laws.EncodingWidth.Statement .nop := rfl
theorem Sys2Proof.Laws.EncodingWidth.transact : Sys2Proof.Laws.EncodingWidth.Statement .transact := rfl
theorem Sys2Proof.Laws.EncodingWidth.decLf16 : Sys2Proof.Laws.EncodingWidth.Statement .decLf16 := rfl
theorem Sys2Proof.Laws.EncodingWidth.decU32 : Sys2Proof.Laws.EncodingWidth.Statement .decU32 := rfl
theorem Sys2Proof.Laws.EncodingWidth.loadRaw16 : Sys2Proof.Laws.EncodingWidth.Statement .loadRaw16 := rfl
theorem Sys2Proof.Laws.EncodingWidth.loadRaw32 : Sys2Proof.Laws.EncodingWidth.Statement .loadRaw32 := rfl
theorem Sys2Proof.Laws.EncodingWidth.readVin : Sys2Proof.Laws.EncodingWidth.Statement .readVin := rfl
theorem Sys2Proof.Laws.EncodingWidth.readVout : Sys2Proof.Laws.EncodingWidth.Statement .readVout := rfl
theorem Sys2Proof.Laws.EncodingWidth.readIout : Sys2Proof.Laws.EncodingWidth.Statement .readIout := rfl
theorem Sys2Proof.Laws.EncodingWidth.readTemp1 : Sys2Proof.Laws.EncodingWidth.Statement .readTemp1 := rfl
theorem Sys2Proof.Laws.EncodingWidth.readTemp2 : Sys2Proof.Laws.EncodingWidth.Statement .readTemp2 := rfl
theorem Sys2Proof.Laws.EncodingWidth.readFan : Sys2Proof.Laws.EncodingWidth.Statement .readFan := rfl
theorem Sys2Proof.Laws.EncodingWidth.readPout : Sys2Proof.Laws.EncodingWidth.Statement .readPout := rfl
theorem Sys2Proof.Laws.EncodingWidth.readVendor : Sys2Proof.Laws.EncodingWidth.Statement .readVendor := rfl
theorem Sys2Proof.Laws.EncodingWidth.readProduct : Sys2Proof.Laws.EncodingWidth.Statement .readProduct := rfl
theorem Sys2Proof.Laws.EncodingWidth.readPowered : Sys2Proof.Laws.EncodingWidth.Statement .readPowered := rfl
theorem Sys2Proof.Laws.EncodingWidth.readUptime : Sys2Proof.Laws.EncodingWidth.Statement .readUptime := rfl
theorem Sys2Proof.Laws.EncodingWidth.readPtotal : Sys2Proof.Laws.EncodingWidth.Statement .readPtotal := rfl
theorem Sys2Proof.Laws.EncodingWidth.readName (sub : Sys2Proof.Byte) : Sys2Proof.Laws.EncodingWidth.Statement (.readName sub) := rfl
theorem Sys2Proof.Laws.EncodingWidth.selectCh0 : Sys2Proof.Laws.EncodingWidth.Statement .selectCh0 := rfl
theorem Sys2Proof.Laws.EncodingWidth.selectCh1 : Sys2Proof.Laws.EncodingWidth.Statement .selectCh1 := rfl
theorem Sys2Proof.Laws.EncodingWidth.selectCh2 : Sys2Proof.Laws.EncodingWidth.Statement .selectCh2 := rfl
end

