-- ==== Sys2Proof/Laws/Words.lean ====
section
/-! SUPPORT. The byte lanes of a word (R63): what each lane of an assembled word is, and its value. -/

namespace Sys2Proof.Machine

variable (b0 b1 b2 b3 : Byte)

@[simp] theorem lane0_wordOfBytes : (wordOfBytes b0 b1 b2 b3).extractLsb' 0 8 = b0 := by
  ext i hi
  simp only [wordOfBytes, BitVec.getElem_extractLsb', BitVec.getLsbD_append]
  simp [hi]

@[simp] theorem lane1_wordOfBytes : (wordOfBytes b0 b1 b2 b3).extractLsb' 8 8 = b1 := by
  ext i hi
  simp only [wordOfBytes, BitVec.getElem_extractLsb', BitVec.getLsbD_append]
  simp [hi, show 8 + i - 8 = i by omega]

@[simp] theorem lane2_wordOfBytes : (wordOfBytes b0 b1 b2 b3).extractLsb' 16 8 = b2 := by
  ext i hi
  simp only [wordOfBytes, BitVec.getElem_extractLsb', BitVec.getLsbD_append]
  simp [hi, show 16 + i - 8 - 8 = i by omega, show ¬ 16 + i < 8 by omega, show ¬ 16 + i - 8 < 8 by omega]

@[simp] theorem lane3_wordOfBytes : (wordOfBytes b0 b1 b2 b3).extractLsb' 24 8 = b3 := by
  ext i hi
  simp only [wordOfBytes, BitVec.getElem_extractLsb', BitVec.getLsbD_append]
  simp [hi, show 24 + i - 8 - 8 - 8 = i by omega, show ¬ 24 + i < 8 by omega, show ¬ 24 + i - 8 < 8 by omega,
    show ¬ 24 + i - 8 - 8 < 8 by omega]

/-- The value of an assembled word (R67). -/
theorem toNat_wordOfBytes :
    (wordOfBytes b0 b1 b2 b3).toNat = b0.toNat + 2 ^ 8 * b1.toNat + 2 ^ 16 * b2.toNat + 2 ^ 24 * b3.toNat := by
  have h0 := b0.isLt
  have h1 := b1.isLt
  have h2 := b2.isLt
  simp only [wordOfBytes, BitVec.toNat_append]
  rw [← Nat.shiftLeft_add_eq_or_of_lt (by omega), ← Nat.shiftLeft_add_eq_or_of_lt (by omega),
    ← Nat.shiftLeft_add_eq_or_of_lt (by omega)]
  simp only [Nat.shiftLeft_eq]
  omega

end Sys2Proof.Machine
end

