-- ==== Sys2Proof/Tests/Slice0.lean ====
section
/-! SUPPORT. Tests: words written out from the spec's encodings, the well-formedness check, single steps with the values of
95_test_vectors.md, and a witness for every statement that has hypotheses. Each test's source stands above it. -/

namespace Sys2Proof.Machine.Tests

open Sys2Proof Sys2Proof.Machine Sys2Proof.Config

/-- The next state of an outcome. -/
def nextOf (o : Host.Outcome State Fault Refusal) : Option State :=
  match o with
  | .next t => some t
  | .fault _ => none
  | .refused _ => none

/-- The refusal of an outcome. -/
def refusalOf (o : Host.Outcome State Fault Refusal) : Option Refusal :=
  match o with
  | .next _ => none
  | .fault _ => none
  | .refused r => some r

/-- The instruction of a decoding. -/
def decoded (o : Except DecodeError Instr) : Option Instr :=
  match o with
  | .ok i => some i
  | .error _ => none

/-! ### Well-formedness -/

/-- READ_NAME with a sub-index other than NAME_SUBIDX is ill-formed (R185). -/
theorem test_wf_readName_refused : Instr.wf Params.default (.readName 0x01) = false := by decide

theorem test_wf_readName : Instr.wf Params.default (.readName 0x00) = true := by decide

/-! ### Decoding: the words of R82 and of R173 to R188, bits written out from the tables, lowest byte first -/

theorem test_decode_nop : decoded (decode Params.default .ctrl [0b00000000, 0x00, 0x00, 0x00]) = some .nop := by decide
theorem test_decode_transact : decoded (decode Params.default .ctrl [0b00000001, 0x00, 0x00, 0x00]) = some .transact := by decide
theorem test_decode_decLf16 : decoded (decode Params.default .ctrl [0b00000010, 0x00, 0x00, 0x00]) = some .decLf16 := by decide
theorem test_decode_decU32 : decoded (decode Params.default .ctrl [0b00000011, 0x00, 0x00, 0x00]) = some .decU32 := by decide
theorem test_decode_loadRaw16 : decoded (decode Params.default .ctrl [0b00000100, 0x00, 0x00, 0x00]) = some .loadRaw16 := by decide
theorem test_decode_loadRaw32 : decoded (decode Params.default .ctrl [0b00000101, 0x00, 0x00, 0x00]) = some .loadRaw32 := by decide
theorem test_decode_readVin : decoded (decode Params.default .triplet [0b00000011, 0b10001000, 0b00000000]) = some .readVin := by decide
theorem test_decode_readVout : decoded (decode Params.default .triplet [0b00000011, 0b10001011, 0b00000000]) = some .readVout := by decide
theorem test_decode_readIout : decoded (decode Params.default .triplet [0b00000011, 0b10001100, 0b00000000]) = some .readIout := by decide
theorem test_decode_readTemp1 : decoded (decode Params.default .triplet [0b00000011, 0b10001101, 0b00000000]) = some .readTemp1 := by decide
theorem test_decode_readTemp2 : decoded (decode Params.default .triplet [0b00000011, 0b10001110, 0b00000000]) = some .readTemp2 := by decide
theorem test_decode_readFan : decoded (decode Params.default .triplet [0b00000011, 0b10010000, 0b00000000]) = some .readFan := by decide
theorem test_decode_readPout : decoded (decode Params.default .triplet [0b00000011, 0b10010110, 0b00000000]) = some .readPout := by decide
theorem test_decode_readVendor : decoded (decode Params.default .triplet [0b00000011, 0b10011001, 0b00000000]) = some .readVendor := by decide
theorem test_decode_readProduct : decoded (decode Params.default .triplet [0b00000011, 0b10011010, 0b00000000]) = some .readProduct := by decide
theorem test_decode_readPowered : decoded (decode Params.default .triplet [0b00000011, 0b11010001, 0b00000000]) = some .readPowered := by decide
theorem test_decode_readUptime : decoded (decode Params.default .triplet [0b00000011, 0b11010010, 0b00000000]) = some .readUptime := by decide
theorem test_decode_readPtotal : decoded (decode Params.default .triplet [0b00000011, 0b11101110, 0b00000000]) = some .readPtotal := by decide
theorem test_decode_readName : decoded (decode Params.default .triplet [0b11111110, 0b00000011, 0b00000000]) = some (.readName 0x00) := by decide
theorem test_decode_selectCh0 : decoded (decode Params.default .triplet [0b00000010, 0b00000000, 0b00000000]) = some .selectCh0 := by decide
theorem test_decode_selectCh1 : decoded (decode Params.default .triplet [0b00000010, 0b00000000, 0b00000001]) = some .selectCh1 := by decide
theorem test_decode_selectCh2 : decoded (decode Params.default .triplet [0b00000010, 0b00000000, 0b00000010]) = some .selectCh2 := by decide

/-- The words T of R201, as 24-bit numbers; and a CTRL word by its width. -/
theorem test_table_readVin : decodeTableWord 24 0x008803 = some .readVin := by decide
theorem test_table_selectCh2 : decodeTableWord 24 0x020002 = some .selectCh2 := by decide
theorem test_table_loadRaw32 : decodeTableWord 32 0x00000005 = some .loadRaw32 := by decide
theorem test_table_transact_short : decodeTableWord 8 0x01 = some .transact := by decide

/-- Vector H8: bits [31:4] are ignored. -/
theorem test_decode_ignoredBits : decoded (decode Params.default .ctrl (wordBytes 0x00000011)) = some .transact := by decide

/-- R83: a reserved OP is no instruction. -/
theorem test_decode_reserved : decoded (decode Params.default .ctrl (wordBytes 0x00000006)) = none := by decide

/-- R188: sub-index 3 of the select command is unlisted. -/
theorem test_decode_select3 : decoded (decode Params.default .triplet [0x02, 0x00, 0x03]) = none := by decide

/-- R173: a read with a sub-index other than 0x00 is unlisted. -/
theorem test_decode_readSub1 : decoded (decode Params.default .triplet [0x03, 0x88, 0x01]) = none := by decide

/-! ### CTRL operations -/

/-- READ_VIN set up and LEN 2, in IDLE (section 2.1). -/
def ready : State := { State.reset with cmd := 0x03, reg := 0x88, len := 2 }

/-- The same after the issue: waiting for the write answer. -/
def inTx : State :=
  { ready with elen := 2, phase := .tx, txb := [(1, 0x03), (2, 0x88)], sent := [cmdReport 0x03 0x88 0x00] }

/-- The same after a full write: waiting for the read answer. -/
def inRx : State := { inTx with phase := .rx, txcnt := 65 }

/-- The same after a short write. -/
def inFault : State := { inTx with phase := .fault, err := 2, txcnt := 64 }

/-- A response: two header bytes, the payload bytes 64 F8, and the bytes 0x10 on (section 2.1). -/
def response (h0 h1 : Byte) : List Byte := [h0, h1, 0x64, 0xF8] ++ (List.range 60).map fun i => BitVec.ofNat 8 (0x10 + i)

/-- Vector H10. -/
theorem test_nop : nextOf (exec .nop inRx) = some inRx := by decide

/-- Vector T1, after issue: TXB 00 03 88 00 then zeros, STATUS 0x00000001, ELEN 2. -/
theorem test_transact :
    (nextOf (exec .transact ready)).map (fun t => (t.txb, statusWord t, t.elen, t.sent))
      = some ([(1, 0x03), (2, 0x88)], 0x00000001, 2, [cmdReport 0x03 0x88 0x00]) := by decide

/-- Vectors T18 and T19: dropped in FAULT, refused in TX. -/
theorem test_transact_fault_busy :
    nextOf (exec .transact inFault) = some inFault ∧ refusalOf (exec .transact inTx) = some .transactWhileBusy := by decide

/-- Vector L2: RAW[31:16] cleared. -/
theorem test_loadRaw16 :
    (nextOf (exec .loadRaw16 { inRx with payload := [(0, 0x64), (1, 0xF8), (2, 0x11), (3, 0x10)], raw := 0xFFFFFFFF })).map
      State.raw = some 0x0000F864 := by decide

/-- Vector L7 with the PAYLOAD bytes of vector T4 (log entry 20). -/
theorem test_loadRaw32 :
    (nextOf (exec .loadRaw32 { inRx with payload := [(0, 0x64), (1, 0xF8), (2, 0x10), (3, 0x11)] })).map
      State.raw = some 0x1110F864 := by decide

/-- Vectors F9 (example W2) and F33: 50.0, and RAW[31:16] ignored. -/
theorem test_decLf16 :
    (nextOf (exec .decLf16 { ready with raw := 0x0000F864 })).map State.fres = some 0x4049000000000000 ∧
    (nextOf (exec .decLf16 { ready with raw := 0xABCD0001 })).map State.fres = some 0x3FF0000000000000 := by decide

/-- Vectors F5, F8, F14, F16, F18, F19, F31. -/
theorem test_lf16Pattern :
    [0x0400, 0xF800, 0x87FF, 0x8401, 0x7BFF, 0x7C00, 0x64F8].map lf16Pattern
      = [0xC090000000000000, 0x0000000000000000, 0xBEF0000000000000, 0xBF8FF80000000000, 0x417FF80000000000,
         0xC180000000000000, 0xC148400000000000] := by decide

/-- Vector U8, and example W3: 3600 seconds are 0 days, 1 hour. -/
theorem test_decU32 :
    (nextOf (exec .decU32 { ready with raw := 0xFFFFFFFF })).map State.ures = some 0xFFFFFFFF ∧
    (durationDays 0x00000E10, durationHours 0x00000E10) = (0, 1) ∧
    (durationDays 0xFFFFFFFF, durationHours 0xFFFFFFFF) = (49710, 6) := by decide

/-! ### Transport answers -/

/-- T1 and T8 to T10: STATUS after the write answer. -/
theorem test_writeAnswers :
    [Answer.accepted 65, .accepted 64, .accepted 0, .fail].map
        (fun a => (nextOf (transportAnswer a inTx)).map statusWord)
      = [some 0x00410002, some 0x00400203, some 0x00000203, some 0x0000020B] := by decide

/-- T1: final STATUS, PLEN register, ACTHDR and the first PAYLOAD word. -/
theorem test_read_match :
    (nextOf (transportAnswer (.data (response 0x03 0x88)) inRx)).map
        (fun t => (statusWord t, plenWord t, actHdrWord t, windowRead t 0x1C0))
      = some (0x40410004, 0x00000202, 0x00008803, 0x0000F864) := by decide +kernel

/-- T7: ELEN 255 clamps to 62; T5: the last PAYLOAD word. -/
theorem test_read_clamp :
    (nextOf (transportAnswer (.data (response 0x03 0x88)) { inRx with elen := 255 })).map
        (fun t => (plenWord t, windowRead t 0x1C0, windowRead t 0x1FC))
      = some (0x0000FF3E, 0x1110F864, 0x00004B4A) := by decide +kernel

/-- T14 and T16: mismatches keep the response and give no payload. -/
theorem test_read_mismatch :
    [response 0x03 0x89, response 0x88 0x03].map
        (fun b => (nextOf (transportAnswer (.data b) inRx)).map
          fun t => (statusWord t, plenWord t, actHdrWord t, windowRead t 0x1C0))
      = [some (0x40410403, 0x00000200, 0x00008903, 0), some (0x40410403, 0x00000200, 0x00000388, 0)] := by decide +kernel

/-- T11 to T13 and T17: short reads and a failed read. -/
theorem test_read_short :
    [Answer.data ((response 0x03 0x88).take 40), .data [], .data ((response 0x03 0x88).take 63), .fail].map
        (fun a => (nextOf (transportAnswer a inRx)).map statusWord)
      = [some 0x28410303, some 0x00410303, some 0x3F410303, some 0x0041030B] := by decide +kernel

/-- R122: no more than 65 bytes accepted, no read answer in TX, none at all in IDLE. -/
theorem test_impossible :
    refusalOf (transportAnswer (.accepted 66) inTx) = some (.impossibleAnswer (.accepted 66)) ∧
    refusalOf (transportAnswer (.data []) inTx) = some (.impossibleAnswer (.data [])) ∧
    refusalOf (transportAnswer .fail ready) = some (.impossibleAnswer .fail) := by decide

/-- Vector T21: a reset in RX, and the late answer is discarded. -/
theorem test_reset_inRx :
    (nextOf (step { inRx with inputs := [.reset] })).map (fun t => (statusWord t, t.txb, t.abandoned))
      = some (0, [], [.read]) ∧
    (nextOf (step { State.reset with abandoned := [.read], inputs := [.lateAnswer (.data [0x03])] }))
      = some State.reset := by decide

/-! ### Host accesses -/

/-- Vectors H2 to H4: what TRIPLET, LEN and RAW keep of a write. -/
theorem test_writes :
    [(0x000, 0xFF123456), (0x004, 0x00001234), (0x01C, 0xDEADBEEF)].map
        (fun p : Nat × Word => (nextOf (hostWrite .word p.1 p.2 ready)).map fun t => windowRead t p.1)
      = [some 0x00123456, some 0x00000034, some 0xDEADBEEF] := by decide

/-- Vectors H5 to H7: CTRL reads 0, writes to read-only places are ignored. -/
theorem test_readOnly :
    windowRead inRx 0x008 = 0 ∧ nextOf (hostWrite .word 0x00C 0xFFFFFFFF inRx) = some inRx ∧
    nextOf (hostWrite .word 0x1C0 0x12345678 inRx) = some inRx := by decide

/-- Vectors H11 to H13. -/
theorem test_accessRefusals :
    [0x02C, 0x0FC, 0x144, 0x17C, 0x200].map (accessRefusal .word)
      = [some (.unmapped 0x02C), some (.unmapped 0x0FC), some (.unmapped 0x144), some (.unmapped 0x17C),
         some (.unmapped 0x200)] ∧
    accessRefusal .word 0x002 = some (.misaligned 0x002) ∧ accessRefusal .half 0x000 = some (.narrowAccess .half 0x000) ∧
    [0x028, 0x100, 0x140, 0x180, 0x1BC, 0x1C0, 0x1FC].map (accessRefusal .word) = [none, none, none, none, none, none, none] := by
  decide

/-- Vector H9. -/
theorem test_reservedOp :
    refusalOf (hostWrite .word 0x008 0x00000006 ready) = some (.undecodable (.reservedOp 6)) := by decide

/-- Vector H16: EXPHDR and the first TXB word after a frame of SELECT_CH1. -/
theorem test_txbWindow :
    (nextOf (exec .selectCh1 State.reset)).map (fun t => (windowRead t 0x100, windowRead t 0x010, windowRead t 0x140))
      = some (0x01000200, 0x00010002, 0) := by decide

/-- Vectors H14 and T1: the first RXB word. -/
theorem test_rxbWindow : windowRead { inRx with rxb := [(0, 0x03), (1, 0x88), (2, 0x64), (3, 0xF8)] } 0x180 = 0xF8648803 := by
  decide

/-! ### Wire commands: the report framed, ELEN and the host's next actions -/

/-- What a test of a wire command looks at. -/
def issuedView (i : Instr) : Option (List Byte × Byte × Phase × Nat) :=
  (nextOf (exec i State.reset)).map fun t => (Memory.bytes 5 t.txb, t.elen, t.phase, t.program.length)

theorem test_readVin : issuedView .readVin = some ([0x00, 0x03, 0x88, 0x00, 0x00], 2, .tx, 6) := by decide
theorem test_readVout : issuedView .readVout = some ([0x00, 0x03, 0x8B, 0x00, 0x00], 2, .tx, 6) := by decide
theorem test_readIout : issuedView .readIout = some ([0x00, 0x03, 0x8C, 0x00, 0x00], 2, .tx, 6) := by decide
theorem test_readTemp1 : issuedView .readTemp1 = some ([0x00, 0x03, 0x8D, 0x00, 0x00], 2, .tx, 6) := by decide
theorem test_readTemp2 : issuedView .readTemp2 = some ([0x00, 0x03, 0x8E, 0x00, 0x00], 2, .tx, 6) := by decide
theorem test_readFan : issuedView .readFan = some ([0x00, 0x03, 0x90, 0x00, 0x00], 2, .tx, 6) := by decide
theorem test_readPout : issuedView .readPout = some ([0x00, 0x03, 0x96, 0x00, 0x00], 2, .tx, 6) := by decide
theorem test_readVendor : issuedView .readVendor = some ([0x00, 0x03, 0x99, 0x00, 0x00], 62, .tx, 18) := by decide
theorem test_readProduct : issuedView .readProduct = some ([0x00, 0x03, 0x9A, 0x00, 0x00], 62, .tx, 18) := by decide
theorem test_readPowered : issuedView .readPowered = some ([0x00, 0x03, 0xD1, 0x00, 0x00], 4, .tx, 5) := by decide
theorem test_readUptime : issuedView .readUptime = some ([0x00, 0x03, 0xD2, 0x00, 0x00], 4, .tx, 5) := by decide
theorem test_readPtotal : issuedView .readPtotal = some ([0x00, 0x03, 0xEE, 0x00, 0x00], 2, .tx, 6) := by decide
theorem test_readName : issuedView (.readName 0x00) = some ([0x00, 0xFE, 0x03, 0x00, 0x00], 62, .tx, 18) := by decide
theorem test_selectCh0 : issuedView .selectCh0 = some ([0x00, 0x02, 0x00, 0x00, 0x00], 0, .tx, 2) := by decide
theorem test_selectCh1 : issuedView .selectCh1 = some ([0x00, 0x02, 0x00, 0x01, 0x00], 0, .tx, 2) := by decide
theorem test_selectCh2 : issuedView .selectCh2 = some ([0x00, 0x02, 0x00, 0x02, 0x00], 0, .tx, 2) := by decide

/-- R202: in FAULT a wire command sends nothing, and its `check` stops the host with the error. -/
theorem test_command_fault :
    (nextOf (exec .readVin inFault)).map (fun t => (t.sent, t.phase, t.err)) = some (inFault.sent, .fault, 2) ∧
    (hostCheck inFault).stopped = some 2 := by decide

/-- R203: 23 transactions, 19 reads and 4 selects. -/
theorem test_snapshotRows :
    (snapshotRows Params.default).length = 23 ∧
    (snapshotRows Params.default).countP (fun i => (descriptorOf Params.default i).any fun d => d.command == 0x02) = 4 := by
  decide

/-- R205: at the end of a row after a reset the attempt aborts, with no record; R202: and at a `check` in FAULT. -/
theorem test_snapshot_aborts :
    (fun t => (t.program, snapshotState t, snapshotOf t))
        (endSnapshotRow 0x008803 2 { ready with program := [.wait], run := some ⟨0, 0, 3, .running⟩ })
      = ([], .aborted, none) ∧
    snapshotState (hostCheck { inFault with run := some ⟨0, 0, 3, .running⟩ }) = .aborted := by decide

/-- R207: the states at the transactions 0, 1, 4, 6, 11, 12, 15, 20 and 23. -/
theorem test_stateOfRow :
    [0, 1, 4, 6, 11, 12, 15, 20, 23].map stateOfRow
      = [.idle, .readingIdentity, .readingDurations, .readingScalars, .selectingChannel 0, .readingChannel 0,
         .selectingChannel 1, .readingChannel 2, .selectingChannel 0] := by decide

/-- Row 1 of program P5: the text "HX1000i" in the first two PAYLOAD words. -/
theorem test_takeString :
    (takeString (0x30315848 :: 0x00693030 :: List.replicate 14 0)).map Prod.fst
      = some [0x48, 0x58, 0x31, 0x30, 0x30, 0x30, 0x69] := by decide

/-! ### Fetching -/

/-- The word placed after reset is what the next step runs. -/
theorem test_fetch_transact : step (State.reset.withFetchWord 32 0x00000001) = exec .transact State.reset := rfl

theorem test_fetch_readVin : step (State.reset.withFetchWord 24 0x008803) = exec .readVin State.reset := rfl

/-! ### Witnesses: states and operands that meet the hypotheses of the statements of Certificates/Slice0/Obligations.lean, at
the boundary values of each clause -/

/-- The outcome is a next state. -/
def Completes (o : Host.Outcome State Fault Refusal) : Prop := ∃ t, o = .next t

/-- A state with the given inputs. -/
def withInputs (i : List Input) (s : State) : State := setInputs i s

/-- A state with the given host program. -/
def withProgram (p : List HostAction) (s : State) : State := setProgram p s

theorem witness_DecodeAndEncodeAgree :
    Instr.wf Params.default (.readName 0x00) = true ∧
    decode Params.default .triplet [0xFE, 0x03, 0x00] = .ok (.readName 0x00) ∧
    decode Params.default .ctrl (wordBytes 0xFFFFFFF5) = .ok .loadRaw32 ∧
    decode Params.default .ctrl (wordBytes 0x00000000) = .ok .nop := ⟨by decide, rfl, rfl, rfl⟩

theorem witness_ReservedOpRefused :
    6 ≤ ((0x00000006 : Word).extractLsb' 0 4).toNat ∧ 6 ≤ ((0xFFFFFFFF : Word).extractLsb' 0 4).toNat := by decide

theorem witness_StepRunsDecodedInstruction :
    (hostTurn (withProgram [op .decU32] ready) = some (withProgram [op .decU32] ready) ∧
      (withProgram [op .decU32] ready).program = [.write .word 0x008 0x00000003] ∧
      decode Params.default .ctrl (wordBytes 0x00000003) = .ok .decU32) ∧
    (hostTurn (withInputs [.host, .reset] (withProgram [.command 0x008803] ready))
        = some (withInputs [.reset] (withProgram [.command 0x008803] ready)) ∧
      decode Params.default .triplet (tripletBytes 0x008803) = .ok .readVin) := ⟨⟨rfl, rfl, rfl⟩, rfl, rfl⟩

/-- For every `RunsOnOp`: a word with bits [31:4] zero and one with them set. -/
theorem witness_RunsOnOp :
    [(0x00000000, 0x0), (0x00000011, 0x1), (0xFFFFFFF2, 0x2), (0x00000003, 0x3), (0x80000004, 0x4), (0x00000005, 0x5)].all
      (fun p : Word × BitVec 4 => p.1.extractLsb' 0 4 == p.2) = true := by decide

/-- READ_VIN after a good response: TXB, RXB and PAYLOAD hold the report, the response and its first two payload bytes. -/
def valid : State :=
  { inRx with
    phase := .idle, rxcnt := 64, plen := 2, pvalid := true, rxb := [(0, 0x03), (1, 0x88), (2, 0x64), (3, 0xF8)],
    payload := [(0, 0x64), (1, 0xF8)] }

theorem valid_good : GoodState valid where
  buffers := ⟨by decide, by decide, by decide⟩
  reportForm := ⟨rfl, fun j hj => by
    show Memory.read [(1, 0x03), (2, 0x88)] j = 0x00
    simp [Memory.read, Memory.unlisted, show 1 ≠ j by omega, show 2 ≠ j by omega]⟩
  errNone := by decide
  errRaised := by decide
  txcntRange := by decide
  rxcntRange := by decide
  inTx := nofun
  inRx := nofun
  xfailFault := nofun
  validGood := fun _ => ⟨rfl, rfl, rfl, rfl, rfl⟩
  validPayload := fun _ => ⟨rfl, fun i => by
    show Memory.read [(0, 0x64), (1, 0xF8)] i
      = if i < 2 then Memory.read [(0, 0x03), (1, 0x88), (2, 0x64), (3, 0xF8)] (2 + i) else 0x00
    rcases i with _ | _ | i
    · rfl
    · rfl
    · simp [Memory.read, Memory.unlisted]⟩
  invalidPayload := nofun
  afterWriteFault := nofun
  afterReadFault := nofun
  afterMismatch := nofun
  pastDelivered := fun j hj => by
    have : 64 ≤ j := hj
    show Memory.read [(0, 0x03), (1, 0x88), (2, 0x64), (3, 0xF8)] j = 0x00
    simp [Memory.read, Memory.unlisted, show 0 ≠ j by omega, show 1 ≠ j by omega, show 2 ≠ j by omega,
      show 3 ≠ j by omega]
  reportsFramed := fun b hb => ⟨0x03, 0x88, 0x00, List.mem_singleton.1 hb⟩
  lastReport := fun h => absurd rfl h

/-- A state waiting for the write answer that meets the invariant. -/
theorem inTx_good : GoodState inTx where
  buffers := ⟨by decide, by decide, by decide⟩
  reportForm := ⟨rfl, fun j hj => by
    show Memory.read [(1, 0x03), (2, 0x88)] j = 0x00
    simp [Memory.read, Memory.unlisted, show 1 ≠ j by omega, show 2 ≠ j by omega]⟩
  errNone := by decide
  errRaised := by decide
  txcntRange := by decide
  rxcntRange := by decide
  inTx := fun _ => ⟨rfl, rfl, rfl⟩
  inRx := nofun
  xfailFault := nofun
  validGood := nofun
  validPayload := nofun
  invalidPayload := fun _ => ⟨rfl, rfl⟩
  afterWriteFault := nofun
  afterReadFault := nofun
  afterMismatch := nofun
  pastDelivered := fun _ _ => rfl
  reportsFramed := fun b hb => ⟨0x03, 0x88, 0x00, List.mem_singleton.1 hb⟩
  lastReport := fun _ => by decide

/-- A state waiting for the read answer that meets the invariant. -/
theorem inRx_good : GoodState inRx where
  buffers := ⟨by decide, by decide, by decide⟩
  reportForm := ⟨rfl, fun j hj => by
    show Memory.read [(1, 0x03), (2, 0x88)] j = 0x00
    simp [Memory.read, Memory.unlisted, show 1 ≠ j by omega, show 2 ≠ j by omega]⟩
  errNone := by decide
  errRaised := by decide
  txcntRange := by decide
  rxcntRange := by decide
  inTx := nofun
  inRx := fun _ => ⟨rfl, rfl, rfl⟩
  xfailFault := nofun
  validGood := nofun
  validPayload := nofun
  invalidPayload := fun _ => ⟨rfl, rfl⟩
  afterWriteFault := nofun
  afterReadFault := nofun
  afterMismatch := nofun
  pastDelivered := fun _ _ => rfl
  reportsFramed := fun b hb => ⟨0x03, 0x88, 0x00, List.mem_singleton.1 hb⟩
  lastReport := fun _ => by decide

theorem witness_TransactIssuesInIdle : valid.phase = .idle ∧ GoodState valid := ⟨rfl, valid_good⟩

theorem witness_TransactWhileBusyRefused :
    (inTx.phase = .tx ∨ inTx.phase = .rx) ∧ (inRx.phase = .tx ∨ inRx.phase = .rx) := by decide

theorem witness_TransactInFaultDropped : inFault.phase = .fault := rfl

/-- PLEN 2, with the bytes from 2 on past it. -/
theorem witness_LoadRaw16Loads : GoodState valid ∧ valid.plen.toNat ≤ 2 := ⟨valid_good, by decide⟩

/-- PLEN 0: every byte is past it. -/
theorem witness_LoadRaw32Loads : GoodState inRx ∧ inRx.plen.toNat ≤ 0 := ⟨inRx_good, by decide⟩

theorem witness_Lf16PatternLayout :
    lf16Mantissa 0xF800 = 0 ∧ lf16Mantissa 0x0000 = 0 ∧ lf16Mantissa 0x8400 ≠ 0 ∧ lf16Mantissa 0x7BFF ≠ 0 := by decide

theorem witness_DecLf16IsExact : binary64Value (lf16Pattern 0x0001) ≠ 0 := by
  have h : lf16Pattern 0x0001 = 0x3FF0000000000000 := by decide
  have e : ((0x3FF0000000000000 : DWord).extractLsb' 52 11).toNat = 1023 := by decide
  have f : ((0x3FF0000000000000 : DWord).extractLsb' 0 52).toNat = 0 := by decide
  have g : (0x3FF0000000000000 : DWord).getLsbD 63 = false := by decide
  simp only [h, binary64Value, e, f, g]
  norm_num

theorem witness_Lf16SignAndRoundTrip :
    ((-1024 : Int) ≤ -1024 ∧ (-1024 : Int) ≤ 1023 ∧ (-16 : Int) ≤ -16 ∧ (-16 : Int) ≤ 15) ∧
    ((-1024 : Int) ≤ 1023 ∧ (1023 : Int) ≤ 1023 ∧ (-16 : Int) ≤ 15 ∧ (15 : Int) ≤ 15) := by decide

/-- The buffers of the test states are canonical. -/
theorem witness_StepKeepsBuffersCanonical : BuffersCanonical inRx ∧ Completes (step inRx) :=
  ⟨⟨by decide, by decide, by decide⟩, _, rfl⟩

/-- The invariant says nothing of the inputs. -/
theorem inRx_good_inputs (i : List Input) : GoodState (withInputs i inRx) where
  buffers := ⟨inRx_good.buffers.txb, inRx_good.buffers.rxb, inRx_good.buffers.payload⟩
  reportForm := inRx_good.reportForm
  errNone := inRx_good.errNone
  errRaised := inRx_good.errRaised
  txcntRange := inRx_good.txcntRange
  rxcntRange := inRx_good.rxcntRange
  inTx := inRx_good.inTx
  inRx := inRx_good.inRx
  xfailFault := inRx_good.xfailFault
  validGood := inRx_good.validGood
  validPayload := inRx_good.validPayload
  invalidPayload := inRx_good.invalidPayload
  afterWriteFault := inRx_good.afterWriteFault
  afterReadFault := inRx_good.afterReadFault
  afterMismatch := inRx_good.afterMismatch
  pastDelivered := inRx_good.pastDelivered
  reportsFramed := inRx_good.reportsFramed
  lastReport := inRx_good.lastReport

theorem witness_DecoderLeavesTransaction :
    Instr.loadRaw32 ∈ [Instr.nop, .loadRaw16, .loadRaw32, .decLf16, .decU32] ∧ GoodState inRx ∧ inRx.phase ≠ .idle :=
  ⟨by decide, inRx_good, by decide⟩

/-- A good and a wrong response, from a state that meets the invariant. -/
theorem witness_StepKeepsGoodState :
    (GoodState (withInputs [.answer (.data (response 0x03 0x88))] inRx) ∧
      Completes (step (withInputs [.answer (.data (response 0x03 0x88))] inRx))) ∧
    (GoodState (withInputs [.answer (.data (response 0x88 0x03))] inRx) ∧
      Completes (step (withInputs [.answer (.data (response 0x88 0x03))] inRx))) :=
  ⟨⟨inRx_good_inputs _, _, rfl⟩, inRx_good_inputs _, _, rfl⟩

theorem witness_FullWriteStartsRead : inTx.phase = .tx := rfl

theorem witness_ShortWriteFaults : inTx.phase = .tx ∧ 0 ≤ 64 ∧ 64 ≤ 64 ∧ GoodState inTx :=
  ⟨rfl, by decide, by decide, inTx_good⟩

theorem witness_FailedWriteFaults : inTx.phase = .tx := rfl

theorem witness_FailedReadFaults : inRx.phase = .rx ∧ GoodState inRx := ⟨rfl, inRx_good⟩

theorem witness_ShortReadFaults :
    inRx.phase = .rx ∧ ([] : List Byte).length ≤ 63 ∧ ((response 0x03 0x88).take 63).length ≤ 63 ∧ GoodState inRx :=
  ⟨rfl, by decide, by decide, inRx_good⟩

/-- The command byte wrong, the register byte wrong. -/
theorem witness_WrongEchoFaults :
    (inRx.phase = .rx ∧ (response 0x02 0x88).length = 64 ∧ (response 0x02 0x88).getD 0 0x00 ≠ Memory.read inRx.txb 1) ∧
    ((response 0x03 0x89).length = 64 ∧ (response 0x03 0x89).getD 1 0x00 ≠ Memory.read inRx.txb 2) ∧ GoodState inRx :=
  ⟨by decide, by decide, inRx_good⟩

/-- ELEN 2, 0 and 255. -/
theorem witness_GoodEchoExtractsPayload :
    GoodState inRx ∧ [inRx, { inRx with elen := 0 }, { inRx with elen := 255 }].all (fun s =>
      s.phase == .rx && (response 0x03 0x88).length == 64 && (response 0x03 0x88).getD 0 0x00 == Memory.read s.txb 1
        && (response 0x03 0x88).getD 1 0x00 == Memory.read s.txb 2) = true := ⟨inRx_good, by decide⟩

/-- Without, and with, a request that an earlier reset abandoned. -/
theorem witness_ResetAbandonsTransaction :
    ((withInputs [.reset, .lateAnswer (.accepted 65)] inTx).inputs = .reset :: .lateAnswer (.accepted 65) :: [] ∧
      pendingRequest (withInputs [.reset, .lateAnswer (.accepted 65)] inTx) = some .write ∧
      admissible .write (.accepted 65) = true) ∧
    ((withInputs [.reset, .lateAnswer .fail] { inRx with abandoned := [.write] }).inputs
        = .reset :: .lateAnswer .fail :: [] ∧
      pendingRequest (withInputs [.reset, .lateAnswer .fail] { inRx with abandoned := [.write] }) = some .read ∧
      admissible .read .fail = true) := by decide

/-- The offsets at the ends of each refused range, and of each range that is answered. -/
theorem witness_AccessesRefusedOutsideTheMap :
    [0x02C, 0x0FC, 0x144, 0x17C].all (fun off => off % 4 == 0 &&
      (decide (0x02C ≤ off ∧ off ≤ 0x0FC) || decide (0x144 ≤ off ∧ off ≤ 0x17C))) = true ∧
    0x200 ≤ 0x200 ∧ Width.half ≠ .word ∧ 0x1FE % 4 ≠ 0 ∧
    [0x000, 0x028, 0x100, 0x140, 0x180, 0x1FC].all (fun off => decide (off ≠ 0x008 ∧ off % 4 = 0 ∧
      ¬ (0x02C ≤ off ∧ off ≤ 0x0FC) ∧ ¬ (0x144 ≤ off ∧ off ≤ 0x17C) ∧ ¬ 0x200 ≤ off)) = true := by decide

theorem witness_HostReadHasNoSideEffect :
    Completes (hostRead .word 0x000 inRx) ∧ Completes (hostRead .word 0x1FC inRx) := ⟨⟨_, rfl⟩, _, rfl⟩

theorem witness_ReadOnlyPlacesIgnoreWrites :
    [0x00C, 0x010, 0x014, 0x018, 0x020, 0x028, 0x100, 0x140, 0x180, 0x1FC].all (fun off => off % 4 == 0 &&
      decide (off = 0x00C ∨ off = 0x010 ∨ off = 0x014 ∨ off = 0x018 ∨ (0x020 ≤ off ∧ off ≤ 0x028) ∨
        (0x100 ≤ off ∧ off ≤ 0x140) ∨ (0x180 ≤ off ∧ off ≤ 0x1FC))) = true := by decide

/-- The last word of each window, and its first and last lane. -/
theorem witness_BufferWindowsShowBytes : 0 < 4 ∧ 3 < 4 ∧ 0 < 17 ∧ 16 < 17 ∧ 0 < 16 ∧ 15 < 16 := by decide

theorem witness_WritesDuringTransactionDoNotChangeIt :
    Completes (transportAnswer (.accepted 65) inTx) ∧ Completes (transportAnswer (.data (response 0x03 0x88)) inRx) :=
  ⟨⟨_, rfl⟩, _, rfl⟩

/-- In IDLE, TX and FAULT. -/
theorem witness_WaitAndCheckReadStatus :
    [ready, inTx, inFault].all (fun s => (withProgram [.wait] s).program == .wait :: [] &&
      (withProgram [.check] s).program == .check :: []) = true ∧
    [ready, inTx, inFault].map State.phase = [.idle, .tx, .fault] := by decide

theorem witness_LinearFloatReadsIssue : State.reset.phase = .idle := rfl

theorem witness_DurationReadsIssue : State.reset.phase = .idle := rfl

theorem witness_StringReadsIssue : State.reset.phase = .idle := rfl

theorem witness_ChannelSelectsIssue : State.reset.phase = .idle := rfl

theorem witness_WireCommandsOutsideIdle :
    descriptorOf inTx.params .selectCh2 = some (Descriptor.selectCh2 inTx.params) ∧ (inTx.phase = .tx ∨ inTx.phase = .rx) ∧
    (inRx.phase = .tx ∨ inRx.phase = .rx) ∧ inFault.phase = .fault := by decide

/-- Sub-index 3 of the select command, and the triplet after reset. -/
theorem witness_UnlistedTripletsAreFramed :
    ready.phase = .idle ∧
    decode ready.params .triplet (tripletBytes 0x030002) = .error (.unlistedTriplet 0x02 0x00 0x03) ∧
    decode ready.params .triplet (tripletBytes 0x000000) = .error (.unlistedTriplet 0x00 0x00 0x00) := ⟨rfl, rfl, rfl⟩

theorem witness_WireCommandIsItsAccesses :
    descriptorOf ready.params .readVin = some Descriptor.readVin ∧ ready.inputs = [] := by decide

/-- A full write and a full response with the header given are to come, after the inputs given. -/
def goodAnswers (before : List Input) (h0 h1 : Byte) (s : State) : State :=
  withInputs (before ++ [.answer (.accepted 65), .answer (.data (response h0 h1))]) s

/-- A linear-float16 read, a duration, a string and a select, each with its own response to come. -/
theorem witness_CommandYieldsItsValue :
    [Instr.readVin, .readUptime, .readName 0x00, .selectCh1].all (fun i =>
      (descriptorOf State.reset.params i).any fun d =>
        descriptorOf (goodAnswers [] d.command d.register State.reset).params i == some d
          && (goodAnswers [] d.command d.register State.reset).phase == .idle
          && (goodAnswers [] d.command d.register State.reset).inputs
            == [.answer (.accepted 65), .answer (.data (response d.command d.register))]
          && (response d.command d.register).length == 64 && (response d.command d.register).getD 0 0x00 == d.command
          && (response d.command d.register).getD 1 0x00 == d.register) = true := by decide

/-- A short write, a failed read, and a wrong echo, each to come in the state. -/
theorem witness_FailedCommandStopsHost :
    (descriptorOf (withInputs [.answer (.accepted 64)] ready).params .readVin = some Descriptor.readVin ∧
      (withInputs [.answer (.accepted 64)] ready).phase = .idle ∧ admissible .write (.accepted 64) = true ∧
      Answer.accepted 64 ≠ .accepted 65 ∧ (withInputs [.answer (.accepted 64)] ready).inputs = [.answer (.accepted 64)]) ∧
    ((withInputs [.answer (.accepted 65), .answer .fail] ready).phase = .idle ∧ admissible .read .fail = true ∧
      (∀ b : List Byte, b.length = 64 → Answer.fail ≠ .data b) ∧
      (withInputs [.answer (.accepted 65), .answer .fail] ready).inputs = [.answer (.accepted 65), .answer .fail]) ∧
    ((goodAnswers [] 0x03 0x89 ready).phase = .idle ∧ (response 0x03 0x89).length = 64 ∧
      ¬ ((response 0x03 0x89).getD 0 0x00 = Descriptor.readVin.command ∧
        (response 0x03 0x89).getD 1 0x00 = Descriptor.readVin.register) ∧
      (goodAnswers [] 0x03 0x89 ready).inputs = [.answer (.accepted 65), .answer (.data (response 0x03 0x89))]) :=
  ⟨by decide, ⟨rfl, rfl, nofun, rfl⟩, by decide⟩

/-- The three channels' reports, and a report of another command. -/
theorem witness_DeviceChannelNote :
    (ready.phase = .idle ∧ Completes (exec .transact ready)) ∧
    (inTx.phase = .tx ∧ Completes (transportAnswer .fail inTx)) ∧
    (∃ t, transportAnswer .fail inRx = .next t ∧ t.phase = .fault) ∧
    (∃ t, transportAnswer (.data (response 0x03 0x88)) inRx = .next t ∧ t.phase = .idle ∧ Memory.read inRx.txb 1 ≠ 0x02) ∧
    (∃ t, transportAnswer (.data (response 0x02 0x00)) { inRx with txb := [(1, 0x02), (3, 0x02)] } = .next t ∧
      t.phase = .idle ∧ HoldsReport [(1, 0x02), (3, 0x02)] 0x02 0x00 (BitVec.ofNat 8 2)) ∧
    (∃ t, transportAnswer (.data (response 0x02 0x00)) { inRx with txb := [(1, 0x02), (3, 0x03)] } = .next t ∧
      t.phase = .idle ∧ 3 ≤ (Memory.read [(1, 0x02), (3, 0x03)] 3).toNat) :=
  ⟨⟨rfl, _, rfl⟩, ⟨rfl, _, rfl⟩, ⟨_, rfl, rfl⟩, ⟨_, rfl, by decide +kernel, by decide⟩, ⟨_, rfl, by decide +kernel, rfl, rfl,
    rfl, rfl, fun j hj => by simp [Memory.read, Memory.unlisted, show 1 ≠ j by omega, show 3 ≠ j by omega]⟩,
    _, rfl, by decide +kernel, by decide⟩

/-- A call that runs. -/
def calling : SnapshotRun := { sentBefore := 0, readsBefore := 0, rows := 0, outcome := .running }

/-- A new call; and a call that has failed, at a step of a host with nothing to do. -/
theorem witness_SnapshotRunIsFreshAndKept :
    (withProgram [.readSnapshot] ready).program = .readSnapshot :: [] ∧
    (({ ready with run := some { calling with outcome := .failed 2 } } : State).run
        = some { calling with outcome := .failed 2 } ∧
      SnapshotOutcome.failed 2 ≠ .running ∧
      Completes (step { ready with run := some { calling with outcome := .failed 2 } })) :=
  ⟨rfl, rfl, by decide, _, rfl⟩

/-- The values of a complete run, all zero, and their record. -/
def zeroReads : List (Nat × Word) := List.replicate 78 (0x028, 0x00000000)

def zeroRecord : Snapshot :=
  { deviceName := [], vendor := [], product := [], poweredSeconds := 0, uptimeSeconds := 0, temp1 := 0, temp2 := 0,
    fanRpm := 0, inputVoltage := 0, totalWatts := 0, channel0 := ⟨0, 0, 0⟩, channel1 := ⟨0, 0, 0⟩,
    channel2 := ⟨0, 0, 0⟩ }

/-- A call about to return, with every row good and every value read. -/
def returning : State :=
  withProgram [.returnSnapshot] { valid with run := some { calling with rows := 23 }, reads := zeroReads }

/-- The return of a complete call, and a good row's end. -/
theorem witness_SnapshotNeedsGoodRows :
    (∃ t r, step returning = .next t ∧ t.run = some r ∧ r.outcome = .complete zeroRecord) ∧
    (∃ t r, step (withProgram [.endRow 0x008803 2] { valid with run := some calling }) = .next t ∧ t.run = some r ∧
      r.rows = calling.rows + 1) ∧ GoodState valid :=
  ⟨⟨_, { calling with rows := 23, outcome := .complete zeroRecord }, rfl, by decide +kernel, rfl⟩,
    ⟨_, { calling with rows := 1 }, rfl, by decide +kernel, rfl⟩, valid_good⟩

theorem witness_ResetRestoresEveryElement : (withInputs [.reset] inFault).inputs = .reset :: [] := rfl

/-- A step of the host, and a late answer, in FAULT. -/
theorem witness_OnlyAnswersRaiseErrors :
    (Completes (step inFault) ∧ inFault.inputs = []) ∧
    Completes (step (withInputs [.lateAnswer .fail] { inFault with abandoned := [.read] })) := ⟨⟨⟨_, rfl⟩, rfl⟩, _, rfl⟩

theorem witness_FaultEntryKeepsTheRest :
    (∃ t, step (withInputs [.answer (.accepted 0)] inTx) = .next t ∧ inTx.phase ≠ .fault ∧ t.phase = .fault) ∧
    (∃ t, step (withInputs [.answer (.data [])] inRx) = .next t ∧ inRx.phase ≠ .fault ∧ t.phase = .fault) ∧
    (∃ t, step (withInputs [.answer (.data (response 0x03 0x89))] inRx) = .next t ∧ t.phase = .fault) :=
  ⟨⟨_, rfl, by decide, rfl⟩, ⟨_, rfl, by decide, rfl⟩, _, rfl, by decide +kernel⟩

/-- In FAULT the host issues a TRANSACT, and an answer to a request from before a reset comes late. -/
theorem witness_FaultIsTerminal :
    inFault.phase = .fault ∧ noReset [.host, .lateAnswer .fail] ∧
    ∃ t, Host.Core.run Sys2Proof.core 2
      (withInputs [.host, .lateAnswer .fail] (withProgram [op .transact] { inFault with abandoned := [.read] })) = .next t :=
  ⟨rfl, by unfold noReset; decide, _, rfl⟩

theorem witness_ReportsAreSentAtIssueOnly :
    Completes (step (withProgram [op .transact] ready)) ∧ Completes (step (withInputs [.answer .fail] inTx)) :=
  ⟨⟨_, rfl⟩, _, rfl⟩

theorem witness_BlockNeverWritesHostRegisters :
    (Instr.transact.format = .ctrl ∧ Completes (exec .transact ready)) ∧ Completes (transportAnswer .fail inRx) ∧
    Completes (lateAnswer .fail { ready with abandoned := [.read] }) := ⟨⟨rfl, _, rfl⟩, ⟨_, rfl⟩, _, rfl⟩

theorem witness_SilentTransportHangs :
    ((inTx.phase = .tx ∨ inTx.phase = .rx) ∧ (inRx.phase = .tx ∨ inRx.phase = .rx) ∧ neverAnswers [.host] ∧
      ∃ t, Host.Core.run Sys2Proof.core 2 (withInputs [.host] (withProgram [.wait] inTx)) = .next t) ∧
    (inRx.inputs = [] ∧ (withProgram [.wait] inRx).program = .wait :: []) :=
  ⟨⟨.inl rfl, .inr rfl, fun i hi => by simp at hi; subst hi; exact ⟨by decide, nofun⟩, _, rfl⟩, rfl, rfl⟩

/-- The host about to issue a TRANSACT, with the inputs given. -/
def aboutToIssue (i : List Input) : State := withInputs i (withProgram (op .transact :: [.wait]) ready)

/-- The good pair of answers, the mismatch, the short write with 64 and the short read with 63 bytes, each to come in the
state. -/
theorem witness_TransactionContract :
    (∀ i, (aboutToIssue i).phase = .idle ∧ (aboutToIssue i).program = op .transact :: [.wait]) ∧
    ((goodAnswers [.host] 0x03 0x88 (aboutToIssue [])).inputs
        = .host :: .answer (.accepted 65) :: .answer (.data (response 0x03 0x88)) :: [] ∧
      (response 0x03 0x88).length = 64 ∧ (response 0x03 0x88).getD 0 0x00 = ready.cmd ∧
      (response 0x03 0x88).getD 1 0x00 = ready.reg) ∧
    ((goodAnswers [.host] 0x03 0x89 (aboutToIssue [])).inputs
        = .host :: .answer (.accepted 65) :: .answer (.data (response 0x03 0x89)) :: [] ∧
      (response 0x03 0x89).length = 64 ∧ (response 0x03 0x89).getD 1 0x00 ≠ ready.reg) ∧
    ((aboutToIssue [.host, .answer (.accepted 64)]).inputs = .host :: .answer (.accepted 64) :: [] ∧
      admissible .write (.accepted 64) = true ∧ Answer.accepted 64 ≠ .accepted 65) ∧
    ((aboutToIssue [.host, .answer (.accepted 65), .answer (.data ((response 0x03 0x88).take 63))]).inputs
        = .host :: .answer (.accepted 65) :: .answer (.data ((response 0x03 0x88).take 63)) :: [] ∧
      admissible .read (.data ((response 0x03 0x88).take 63)) = true ∧
      ∀ b : List Byte, b.length = 64 → Answer.data ((response 0x03 0x88).take 63) ≠ .data b) :=
  ⟨fun _ => ⟨rfl, rfl⟩, by decide, by decide, by decide, rfl, by decide, fun b hb h => by
    have : ((response 0x03 0x88).take 63).length = b.length := by rw [Answer.data.inj h]
    rw [hb] at this
    exact absurd this (by decide)⟩

end Sys2Proof.Machine.Tests
end

section
/-! SUPPORT. The host's turn, from the inputs down to the instruction (R6, R66, R82, R92). -/

namespace Sys2Proof.Machine

variable {s t : State}

/-- Where the host moves next, the step is the host's, in the state with the turn taken (R6). -/
theorem step_of_hostTurn (h : hostTurn s = some t) : step s = hostStep t := by
  unfold hostTurn at h
  unfold step agentStep
  split at h
  case h_1 hi =>
    obtain rfl := Option.some.inj h
    rw [hi]
  case h_2 rest hi =>
    obtain rfl := Option.some.inj h
    rw [hi]
    rfl
  case h_3 => cases h

theorem hostStep_of_program {a : HostAction} {rest : List HostAction} (h : s.program = a :: rest) :
    hostStep s = hostAct a (setProgram rest s) := by
  unfold hostStep
  rw [h]

theorem step_of_hostAction {a : HostAction} {rest : List HostAction} (hturn : hostTurn s = some t)
    (hprog : t.program = a :: rest) : step s = hostAct a (setProgram rest t) :=
  (step_of_hostTurn hturn).trans (hostStep_of_program hprog)

/-- A word write to CTRL is not refused as an access: CTRL is aligned and mapped (R61, R62, R64). -/
theorem hostWrite_ctrl (v : Word) (s : State) : hostWrite .word offCtrl v s = ctrlWrite v s := by
  have access : accessRefusal .word offCtrl = none := accessRefusal_none.mpr ⟨rfl, rfl, rfl⟩
  simp only [hostWrite, access, if_true]

theorem ctrlWrite_of_decode {v : Word} {i : Instr} (h : decode s.params .ctrl (wordBytes v) = .ok i) :
    ctrlWrite v s = exec i s := by
  simp only [ctrlWrite, h]

theorem hostCommand_of_decode {w : Triplet} {i : Instr} (h : decode s.params .triplet (tripletBytes w) = .ok i) :
    hostCommand w s = exec i s := by
  simp only [hostCommand, h]

/-- Settles O5: the step is the host's first action, and each of the two actions that carry an instruction word runs the
instruction the word decodes to. Taking the action from the program leaves the parameters of the decoder alone. -/
theorem stepRunsDecodedInstruction : Obligations.StepRunsDecodedInstruction := by
  refine ⟨fun s t rest v i hturn hprog hdec => ?_, fun s t rest w i hturn hprog hdec => ?_⟩
  · calc step s
        = hostWrite .word offCtrl v (setProgram rest t) := step_of_hostAction hturn hprog
      _ = ctrlWrite v (setProgram rest t) := hostWrite_ctrl v _
      _ = exec i (setProgram rest t) := ctrlWrite_of_decode hdec
  · calc step s
        = hostCommand w (setProgram rest t) := step_of_hostAction hturn hprog
      _ = exec i (setProgram rest t) := hostCommand_of_decode hdec

end Sys2Proof.Machine
end

section
/-! SUPPORT. The transaction's part of the state: what a step can do to it, said once, and the rule that an invariant of it
is kept by every step when issue, answers and reset keep it. -/

namespace Sys2Proof.Machine

open Sys2Proof.Config

variable {s t : State}

/-- The state with everything that is no part of the transaction forgotten: the host's registers, the results, the agents
around the block and the parameters. What is left are ELEN, PHASE, the flags and counts, the buffers and the reports sent. -/
def transaction (s : State) : State :=
  { s with
    cmd := 0, reg := 0, sub := 0, len := 0, raw := 0, fres := 0, ures := 0, abandoned := [], channel := none, program := [],
    reads := [], stopped := none, run := none, inputs := [], params := Params.default }

/-- What the host can do to the transaction: nothing, or issue a report in IDLE. The registers the report is framed from
are those of `u`, which a wire command has just written. -/
def HostMove (s t : State) : Prop :=
  transaction t = transaction s ∨
  ∃ u, u.phase = .idle ∧ transaction u = transaction s ∧ transaction t = transaction (issueReport u)

/-- What one step can do to the transaction: a move of the host, an answer to the pending request, or reset. -/
def BlockMove (s t : State) : Prop :=
  HostMove s t ∨ ∃ u, transaction u = transaction s ∧ ((∃ a, transportAnswer a u = .next t) ∨ t = resetBlock u)

theorem transaction_windowWrite (off : Nat) (v : Word) (s : State) :
    transaction (windowWrite off v s) = transaction s := by
  rcases windowWrite_cases off v s with e | e | e | e <;> rw [e] <;> rfl

theorem transaction_hostWait (s : State) : transaction (hostWait s) = transaction s := by
  unfold hostWait
  split <;> rfl

theorem transaction_hostCheck (s : State) : transaction (hostCheck s) = transaction s := by
  unfold hostCheck
  split <;> rfl

theorem transactOp_hostMove (h : transactOp s = .next t) : HostMove s t := by
  rcases transactOp_next h with ⟨idle, rfl⟩ | ⟨-, rfl⟩
  · exact .inr ⟨s, idle, rfl, rfl⟩
  · exact .inl rfl

theorem runCommand_hostMove {d : Descriptor} (h : runCommand d s = .next t) : HostMove s t := by
  obtain ⟨u, hu, rfl⟩ := runCommand_next h
  exact (transactOp_hostMove hu : HostMove (commandSetup d s) u)

theorem exec_hostMove {i : Instr} (h : exec i s = .next t) : HostMove s t := by
  rcases exec_next h with rfl | ⟨v, rfl⟩ | ⟨v, rfl⟩ | ⟨v, rfl⟩ | h | ⟨d, h⟩
  · exact .inl rfl
  · exact .inl rfl
  · exact .inl rfl
  · exact .inl rfl
  · exact transactOp_hostMove h
  · exact runCommand_hostMove h

theorem hostAct_hostMove {a : HostAction} (h : hostAct a s = .next t) : HostMove s t := by
  rcases hostAct_next h with ⟨off, rfl⟩ | ⟨off, v, rfl⟩ | ⟨i, h⟩ | rfl | rfl | ⟨d, h⟩ | ⟨p, r, rfl⟩
  · exact .inl rfl
  · exact .inl (transaction_windowWrite off v s)
  · exact exec_hostMove h
  · exact .inl (transaction_hostWait s)
  · exact .inl (transaction_hostCheck s)
  · exact runCommand_hostMove h
  · exact .inl rfl

theorem hostStep_hostMove (h : hostStep s = .next t) : HostMove s t := by
  rcases hostStep_next h with ⟨-, rfl⟩ | ⟨a, rest, -, h⟩
  · exact .inl rfl
  · exact (hostAct_hostMove h : HostMove (setProgram rest s) t)

theorem step_blockMove (h : step s = .next t) : BlockMove s t := by
  rcases step_next h with ⟨-, h⟩ | ⟨rest, -, h⟩ | ⟨a, rest, -, h⟩ | ⟨a, rest, -, h⟩ | ⟨rest, -, rfl⟩
  · exact .inl (hostStep_hostMove h)
  · exact .inl (hostStep_hostMove h : HostMove (setInputs rest s) t)
  · exact .inr ⟨setInputs rest s, rfl, .inl ⟨a, h⟩⟩
  · obtain ⟨rs, -, rfl⟩ := lateAnswer_next h
    exact .inl (.inl rfl)
  · exact .inr ⟨setInputs rest s, rfl, .inr rfl⟩

/-- An invariant of the transaction is kept by every step when issue, the Transport's answers and reset keep it. -/
theorem step_keeps {P : State → Prop} (view : ∀ {s t}, transaction s = transaction t → P s → P t)
    (issue : ∀ {s}, s.phase = .idle → P s → P (issueReport s))
    (answer : ∀ {s t a}, transportAnswer a s = .next t → P s → P t)
    (reset : ∀ {s}, P s → P (resetBlock s)) (h : step s = .next t) (hs : P s) : P t := by
  rcases step_blockMove h with (hview | ⟨u, idle, hu, ht⟩) | ⟨u, hu, ⟨a, ha⟩ | rfl⟩
  · exact view hview.symm hs
  · exact view ht.symm (issue idle (view hu.symm hs))
  · exact answer ha (view hu.symm hs)
  · exact reset (view hu.symm hs)

/-! ### The canonical form of the buffers -/

theorem buffersCanonical_transaction : BuffersCanonical (transaction s) ↔ BuffersCanonical s :=
  ⟨fun h => { h with }, fun h => { h with }⟩

theorem buffersCanonical_issueReport (s : State) : BuffersCanonical (issueReport s) where
  txb := by rw [issueReport_txb]; exact wf_ofBytes (Nat.le_refl txLen)
  rxb := wf_cleared rxLen
  payload := wf_cleared payloadMax

theorem buffersCanonical_storeResponse {b : List Byte} (hb : b.length ≤ rxLen) (h : BuffersCanonical s) :
    BuffersCanonical (storeResponse b s) :=
  { h with rxb := wf_writeBytes b (by omega) h.rxb }

theorem extractLength_le (s : State) : extractLength s ≤ payloadMax := Nat.min_le_right _ _

theorem length_keptBytes (s : State) : (keptBytes s).length = extractLength s := by
  rw [keptBytes, List.length_take, List.length_drop, length_bytes]
  exact Nat.min_eq_left (extractLength_le s)

theorem buffersCanonical_extractPayload (h : BuffersCanonical s) : BuffersCanonical (extractPayload s) :=
  have kept : 0 + (keptBytes s).length ≤ payloadMax := by
    rw [length_keptBytes, Nat.zero_add]; exact extractLength_le s
  { h with payload := wf_writeBytes (keptBytes s) kept h.payload }

theorem buffersCanonical_validate (h : BuffersCanonical s) : BuffersCanonical (validate s) := by
  rcases validate_cases s with ⟨-, e⟩ | ⟨-, e⟩ <;> rw [e]
  · exact buffersCanonical_extractPayload h
  · exact { h with }

theorem buffersCanonical_writeAnswer {a : Answer} (ht : writeAnswer a s = .next t) (h : BuffersCanonical s) :
    BuffersCanonical t := by
  rcases writeAnswer_next ht with ⟨-, rfl⟩ | ⟨n, -, -, rfl⟩ | ⟨-, rfl⟩ <;> exact { h with }

theorem buffersCanonical_readAnswer {a : Answer} (ht : readAnswer a s = .next t) (h : BuffersCanonical s) :
    BuffersCanonical t := by
  rcases readAnswer_next ht with ⟨b, hb, -, rfl⟩ | ⟨b, hb, -, rfl⟩ | ⟨-, rfl⟩
  · exact buffersCanonical_validate (buffersCanonical_storeResponse hb.le h)
  · exact { buffersCanonical_storeResponse hb.le h with }
  · exact { h with }

theorem buffersCanonical_transportAnswer {a : Answer} (ht : transportAnswer a s = .next t) (h : BuffersCanonical s) :
    BuffersCanonical t := by
  rcases transportAnswer_next ht with ⟨-, ht⟩ | ⟨-, ht⟩
  · exact buffersCanonical_writeAnswer ht h
  · exact buffersCanonical_readAnswer ht h

theorem buffersCanonical_resetBlock (s : State) : BuffersCanonical (resetBlock s) :=
  ⟨wf_cleared txLen, wf_cleared rxLen, wf_cleared payloadMax⟩

/-- Settles O53: only issue, an answer that delivers bytes and reset write a buffer, and each writes within its size. -/
theorem stepKeepsBuffersCanonical : Obligations.StepKeepsBuffersCanonical := fun _ _ hs h =>
  step_keeps (fun e h => buffersCanonical_transaction.mp (e ▸ buffersCanonical_transaction.mpr h))
    (fun _ _ => buffersCanonical_issueReport _) buffersCanonical_transportAnswer (fun _ => buffersCanonical_resetBlock _) h hs

end Sys2Proof.Machine
end

section
/-! SUPPORT. Each operation of the framer keeps the invariant GoodState, and so does every step. -/

namespace Sys2Proof.Machine

open Sys2Proof.Config

variable {s t : State}

theorem goodState_transaction : GoodState (transaction s) ↔ GoodState s :=
  ⟨fun h => { h with buffers := { h.buffers with } }, fun h => { h with buffers := { h.buffers with } }⟩

/-! ### What the invariant says by phase -/

theorem GoodState.err_zero (h : GoodState s) (hp : s.phase ≠ .fault) : s.err.toNat = 0 := by
  rw [h.errNone.mpr hp]
  rfl

theorem GoodState.xfail_false (h : GoodState s) (hp : s.phase ≠ .fault) : s.xfail = false :=
  Bool.eq_false_iff.mpr fun hx => hp (h.xfailFault hx).1

theorem GoodState.pvalid_false (h : GoodState s) (hp : s.phase ≠ .idle) : s.pvalid = false :=
  Bool.eq_false_iff.mpr fun hv => hp (h.validGood hv).1

/-! ### Issue -/

theorem read_issueReport_txb (s : State) (i : Nat) : Memory.read (issueReport s).txb i
    = if i = 1 then s.cmd else if i = 2 then s.reg else if i = 3 then s.sub else 0x00 := by
  rw [issueReport_txb, read_ofBytes, getD_cmdReport]

theorem issueReport_sent_cmdReport (s : State) :
    (issueReport s).sent = s.sent ++ [cmdReport s.cmd s.reg s.sub] := by
  rw [issueReport_sent, bytes_cmdReport]

theorem goodState_issueReport (idle : s.phase = .idle) (h : GoodState s) : GoodState (issueReport s) :=
  have err0 : s.err.toNat = 0 := h.err_zero (by simp [idle])
  { h with
    buffers := buffersCanonical_issueReport s
    reportForm := by
      simp only [read_issueReport_txb]
      exact ⟨rfl, fun i hi => by rw [if_neg (by omega), if_neg (by omega), if_neg (by omega)]⟩
    errNone := by simp [h.errNone, idle]
    txcntRange := Nat.zero_le _
    rxcntRange := Nat.zero_le _
    inTx := fun _ => ⟨rfl, rfl, rfl⟩
    inRx := nofun
    xfailFault := nofun
    validGood := nofun
    validPayload := nofun
    invalidPayload := fun _ => ⟨rfl, rfl⟩
    afterWriteFault := by simp [err0]
    afterReadFault := by simp [err0]
    afterMismatch := by simp [err0]
    pastDelivered := fun _ _ => rfl
    reportsFramed := by
      rw [issueReport_sent_cmdReport]
      exact List.forall_mem_append.mpr ⟨h.reportsFramed, List.forall_mem_singleton.mpr ⟨s.cmd, s.reg, s.sub, rfl⟩⟩
    lastReport := by simp }

/-! ### The write answer -/

theorem goodState_acceptReport (tx : s.phase = .tx) (h : GoodState s) : GoodState (acceptReport s) :=
  have notIdle : s.phase ≠ .idle := by simp [tx]
  have err0 : s.err.toNat = 0 := h.err_zero (by simp [tx])
  have invalid : s.pvalid = false := h.pvalid_false notIdle
  have ⟨_, rxcnt0, rxbNil⟩ := h.inTx tx
  { h with
    buffers := { h.buffers with }
    errNone := by simp [h.errNone, tx]
    txcntRange := Nat.le_refl txLen
    inTx := nofun
    inRx := fun _ => ⟨rfl, rxcnt0, rxbNil⟩
    xfailFault := by simp [h.xfail_false, tx]
    validGood := by simp [invalid]
    validPayload := by simp [invalid]
    afterWriteFault := by simp [err0]
    afterReadFault := by simp [err0]
    afterMismatch := by simp [err0]
    lastReport := fun _ => h.lastReport notIdle }

/-- The write fault of R115 and R116: fewer bytes accepted than the report has, whatever becomes of XFAIL. -/
theorem goodState_writeFault {n : Nat} (x : Bool) (hn : n < txLen) (tx : s.phase = .tx) (h : GoodState s) :
    GoodState (raiseFault .transportWriteShortOrFailed (forgetChannel (recordWrite n x s))) :=
  have notIdle : s.phase ≠ .idle := by simp [tx]
  have invalid : s.pvalid = false := h.pvalid_false notIdle
  have ⟨_, rxcnt0, rxbNil⟩ := h.inTx tx
  have txcnt : (BitVec.ofNat 8 n).toNat < txLen := by simp only [BitVec.toNat_ofNat]; omega
  { h with
    buffers := { h.buffers with }
    errNone := by simp [ErrorKind.code, Sys2Proof.Machine.errNone]
    errRaised := .inr (.inl rfl)
    txcntRange := txcnt.le
    inTx := nofun
    inRx := nofun
    xfailFault := fun _ => ⟨rfl, .inl rfl⟩
    validGood := by simp [invalid]
    validPayload := by simp [invalid]
    afterWriteFault := fun _ => ⟨txcnt, rxcnt0, rxbNil⟩
    afterReadFault := nofun
    afterMismatch := nofun
    lastReport := fun _ => h.lastReport notIdle }

theorem goodState_writeAnswer {a : Answer} (tx : s.phase = .tx) (ht : writeAnswer a s = .next t) (h : GoodState s) :
    GoodState t := by
  rcases writeAnswer_next ht with ⟨-, rfl⟩ | ⟨n, hn, -, rfl⟩ | ⟨-, rfl⟩
  · exact goodState_acceptReport tx h
  · exact goodState_writeFault s.xfail hn tx h
  · exact goodState_writeFault true (Nat.zero_lt_succ _) tx h

/-! ### The read answer -/

/-- In RX the response lands in an empty buffer: nothing is left past the bytes delivered (R32). -/
theorem read_storeResponse_pastDelivered {b : List Byte} (hb : b.length ≤ rxLen) (rx : s.phase = .rx) (h : GoodState s)
    (i : Nat) (hi : (storeResponse b s).rxcnt.toNat ≤ i) : Memory.read (storeResponse b s).rxb i = 0x00 := by
  rw [storeResponse_rxcnt, BitVec.toNat_ofNat, Nat.mod_eq_of_lt (hb.trans_lt (by decide))] at hi
  rw [storeResponse_rxb, read_writeBytes, if_neg (by omega), (h.inRx rx).2.2, read_nil]

/-- The read fault of R117 and R118: fewer bytes delivered than a response has, whatever becomes of XFAIL. A failed read
delivers none. -/
theorem goodState_readFault {b : List Byte} (x : Bool) (hb : b.length < rxLen) (rx : s.phase = .rx) (h : GoodState s) :
    GoodState (raiseFault .transportReadShortOrFailed { storeResponse b s with xfail := x }) :=
  have notIdle : s.phase ≠ .idle := by simp [rx]
  have invalid : s.pvalid = false := h.pvalid_false notIdle
  have ⟨txcntFull, _, _⟩ := h.inRx rx
  have rxcnt : (BitVec.ofNat 8 b.length).toNat < rxLen := by simp only [BitVec.toNat_ofNat]; omega
  { h with
    buffers := { buffersCanonical_storeResponse hb.le h.buffers with }
    errNone := by simp [ErrorKind.code, Sys2Proof.Machine.errNone]
    errRaised := .inr (.inr (.inl rfl))
    rxcntRange := rxcnt.le
    inTx := nofun
    inRx := nofun
    xfailFault := fun _ => ⟨rfl, .inr rfl⟩
    validGood := by simp [invalid]
    validPayload := by simp [invalid]
    afterWriteFault := nofun
    afterReadFault := fun _ => ⟨txcntFull, rxcnt⟩
    afterMismatch := nofun
    pastDelivered := read_storeResponse_pastDelivered hb.le rx h
    lastReport := fun _ => h.lastReport notIdle }

theorem headerMatches_iff : headerMatches s = true ↔ EchoGood s := by simp [headerMatches, EchoGood]

/-- The bytes a good transaction keeps are those of the response after its header (R121). -/
theorem getD_keptBytes {i : Nat} (hi : i < extractLength s) :
    (keptBytes s).getD i 0x00 = Memory.read s.rxb (hdrLen + i) := by
  have inResponse : hdrLen + i < rxLen := Nat.add_lt_add_left (hi.trans_le (extractLength_le s)) hdrLen
  rw [← getD_bytes rxLen s.rxb _ inResponse, keptBytes]
  simp [List.getD_eq_getElem?_getD, hi]

/-- Extraction into an empty PAYLOAD (R33, R121). -/
theorem read_extractPayload (empty : s.payload = []) (i : Nat) :
    Memory.read (extractPayload s).payload i = if i < extractLength s then Memory.read s.rxb (hdrLen + i) else 0x00 := by
  rw [extractPayload_payload, read_writeBytes, length_keptBytes, empty, read_nil, Nat.sub_zero]
  by_cases hi : i < extractLength s
  · rw [if_pos (by omega), if_pos hi, getD_keptBytes hi]
  · rw [if_neg (by omega), if_neg hi]

theorem goodState_goodEcho {b : List Byte} (hb : b.length = rxLen) (echo : EchoGood (storeResponse b s))
    (rx : s.phase = .rx) (h : GoodState s) : GoodState (extractPayload (storeResponse b s)) :=
  have err0 : s.err.toNat = 0 := h.err_zero (by simp [rx])
  have empty : s.payload = [] := (h.invalidPayload (h.pvalid_false (by simp [rx]))).1
  have ⟨txcntFull, _, _⟩ := h.inRx rx
  have rxcntFull : (BitVec.ofNat 8 b.length).toNat = rxLen := by rw [hb]; rfl
  have plen : (BitVec.ofNat 6 (extractLength s)).toNat = extractLength s :=
    Nat.mod_eq_of_lt (Nat.lt_of_le_of_lt (extractLength_le s) (by decide))
  { h with
    buffers := buffersCanonical_extractPayload (buffersCanonical_storeResponse hb.le h.buffers)
    errNone := by simp [h.errNone, rx]
    rxcntRange := rxcntFull.le
    inTx := nofun
    inRx := nofun
    xfailFault := by simp [h.xfail_false, rx]
    validGood := fun _ => ⟨rfl, txcntFull, rxcntFull, echo⟩
    validPayload := fun _ => ⟨plen, read_extractPayload empty⟩
    invalidPayload := nofun
    afterWriteFault := by simp [err0]
    afterReadFault := by simp [err0]
    afterMismatch := by simp [err0]
    pastDelivered := read_storeResponse_pastDelivered hb.le rx h
    lastReport := by simp }

theorem goodState_wrongEcho {b : List Byte} (hb : b.length = rxLen) (echo : ¬ EchoGood (storeResponse b s))
    (rx : s.phase = .rx) (h : GoodState s) : GoodState (mismatch (storeResponse b s)) :=
  have notIdle : s.phase ≠ .idle := by simp [rx]
  have invalid : s.pvalid = false := h.pvalid_false notIdle
  have ⟨txcntFull, _, _⟩ := h.inRx rx
  have rxcntFull : (BitVec.ofNat 8 b.length).toNat = rxLen := by rw [hb]; rfl
  { h with
    buffers := { buffersCanonical_storeResponse hb.le h.buffers with }
    errNone := by simp [mismatch, ErrorKind.code, Sys2Proof.Machine.errNone]
    errRaised := .inr (.inr (.inr rfl))
    rxcntRange := rxcntFull.le
    inTx := nofun
    inRx := nofun
    xfailFault := by simp [mismatch, h.xfail_false, rx]
    validGood := by simp [mismatch, invalid]
    validPayload := by simp [mismatch, invalid]
    afterWriteFault := nofun
    afterReadFault := nofun
    afterMismatch := fun _ => ⟨txcntFull, rxcntFull, echo⟩
    pastDelivered := read_storeResponse_pastDelivered hb.le rx h
    lastReport := fun _ => h.lastReport notIdle }

theorem goodState_readAnswer {a : Answer} (rx : s.phase = .rx) (ht : readAnswer a s = .next t) (h : GoodState s) :
    GoodState t := by
  rcases readAnswer_next ht with ⟨b, hb, -, rfl⟩ | ⟨b, hb, -, rfl⟩ | ⟨-, rfl⟩
  · rcases validate_cases (storeResponse b s) with ⟨good, e⟩ | ⟨wrong, e⟩ <;> rw [e]
    · exact goodState_goodEcho hb (headerMatches_iff.mp good) rx h
    · exact goodState_wrongEcho hb (fun good => by simp [headerMatches_iff.mpr good] at wrong) rx h
  · exact goodState_readFault s.xfail hb rx h
  · exact goodState_readFault (b := []) true (Nat.zero_lt_succ _) rx h

theorem goodState_transportAnswer {a : Answer} (ht : transportAnswer a s = .next t) (h : GoodState s) : GoodState t := by
  rcases transportAnswer_next ht with ⟨tx, ht⟩ | ⟨rx, ht⟩
  · exact goodState_writeAnswer tx ht h
  · exact goodState_readAnswer rx ht h

/-! ### Reset, and every step -/

/-- Reset needs of the state before it only that the reports sent were command reports: the record of them stays. -/
theorem goodState_resetBlock (framed : ∀ b ∈ s.sent, ∃ c r u : Byte, b = cmdReport c r u) : GoodState (resetBlock s) where
  buffers := buffersCanonical_resetBlock s
  reportForm := ⟨rfl, fun _ _ => rfl⟩
  errNone := by simp [Sys2Proof.Machine.errNone]
  errRaised := .inl rfl
  txcntRange := Nat.zero_le _
  rxcntRange := Nat.zero_le _
  inTx := nofun
  inRx := nofun
  xfailFault := nofun
  validGood := nofun
  validPayload := nofun
  invalidPayload := fun _ => ⟨rfl, rfl⟩
  afterWriteFault := nofun
  afterReadFault := nofun
  afterMismatch := nofun
  pastDelivered := fun _ _ => rfl
  reportsFramed := framed
  lastReport := by simp

/-- Settles O52: the invariant speaks of the transaction alone, and each operation on the transaction keeps it. -/
theorem stepKeepsGoodState : Obligations.StepKeepsGoodState := fun _ _ hs h =>
  step_keeps (fun e h => goodState_transaction.mp (e ▸ goodState_transaction.mpr h)) goodState_issueReport
    goodState_transportAnswer (fun h => goodState_resetBlock h.reportsFramed) h hs

/-- Settles O51: the state after reset is a reset of itself, with nothing sent. -/
theorem resetIsGoodState : Obligations.ResetIsGoodState :=
  goodState_resetBlock (s := State.reset) nofun

end Sys2Proof.Machine
end

section
/-! SUPPORT. The register window word by word (R37 to R51): which aligned accesses have a meaning, what each place reads as,
and the byte lanes of the buffer windows. -/

namespace Sys2Proof.Machine

open Sys2Proof.Config

variable {s t : State}

/-! ### Writes -/

/-- A word write to a mapped, aligned place other than CTRL is the window's own write. -/
theorem hostWrite_window {off : Nat} (aligned : off % 4 = 0) (map : mapped off = true) (notCtrl : off ≠ offCtrl) (v : Word)
    (s : State) : hostWrite .word off v s = .next (windowWrite off v s) := by
  have access : accessRefusal .word off = none := accessRefusal_none.mpr ⟨rfl, aligned, map⟩
  simp only [hostWrite, access, if_neg notCtrl]

/-- Only three places of the window are written (R51). -/
theorem windowWrite_readOnly {off : Nat} (triplet : off ≠ offTriplet) (len : off ≠ offLen) (raw : off ≠ offRaw) (v : Word)
    (s : State) : windowWrite off v s = s := by
  rw [windowWrite, if_neg triplet, if_neg len, if_neg raw]

/-- Settles O30. -/
theorem hostWritesItsRegisters : Obligations.HostWritesItsRegisters := fun s v =>
  ⟨hostWrite_window (off := offTriplet) rfl rfl (by decide) v s, hostWrite_window (off := offLen) rfl rfl (by decide) v s,
    hostWrite_window (off := offRaw) rfl rfl (by decide) v s⟩

/-- Settles O31: each of the places is mapped, and none is CTRL or one of the three places written. -/
theorem readOnlyPlacesIgnoreWrites : Obligations.ReadOnlyPlacesIgnoreWrites := by
  intro s off v aligned places
  have map : mapped off = true := by
    simp only [mapped, Bool.or_eq_true, Bool.and_eq_true, decide_eq_true_eq]
    omega
  have triplet : off ≠ 0x000 := by omega
  have len : off ≠ 0x004 := by omega
  have ctrl : off ≠ 0x008 := by omega
  have raw : off ≠ 0x01C := by omega
  calc hostWrite .word off v s
      = .next (windowWrite off v s) := hostWrite_window aligned map ctrl v s
    _ = .next s := by rw [windowWrite_readOnly triplet len raw]

/-! ### Registers -/

theorem windowRead_triplet (s : State) : windowRead s offTriplet = tripletWord s := rfl
theorem windowRead_len (s : State) : windowRead s offLen = lenWord s := rfl
theorem windowRead_ctrl (s : State) : windowRead s offCtrl = 0 := rfl
theorem windowRead_status (s : State) : windowRead s offStatus = statusWord s := rfl
theorem windowRead_expHdr (s : State) : windowRead s offExpHdr = expHdrWord s := rfl
theorem windowRead_actHdr (s : State) : windowRead s offActHdr = actHdrWord s := rfl
theorem windowRead_plen (s : State) : windowRead s offPlen = plenWord s := rfl
theorem windowRead_raw (s : State) : windowRead s offRaw = s.raw := rfl
theorem windowRead_fresLo (s : State) : windowRead s offFresLo = fresLo s := rfl
theorem windowRead_fresHi (s : State) : windowRead s offFresHi = fresHi s := rfl
theorem windowRead_ures (s : State) : windowRead s offUres = s.ures := rfl

/-- LEN's upper 24 bits read 0 (R39). -/
theorem lenWord_eq_append (s : State) : lenWord s = 0#24 ++ s.len := by
  simp [lenWord, BitVec.setWidth_eq_append]

theorem actHdrWord_eq_append (s : State) :
    actHdrWord s = 0x0000#16 ++ Memory.read s.rxb 1 ++ Memory.read s.rxb 0 := by
  simp only [actHdrWord, wordOfBytes]
  rfl

/-- The two halves of FRES (R46). -/
theorem fresHi_append_fresLo (s : State) : fresHi s ++ fresLo s = s.fres :=
  BitVec.extractLsb'_append_extractLsb'

/-- Settles O32. -/
theorem registersReadBack : Obligations.RegistersReadBack := fun s =>
  ⟨windowRead_triplet s, (windowRead_len s).trans (lenWord_eq_append s), windowRead_ctrl s, windowRead_status s,
    windowRead_expHdr s, (windowRead_actHdr s).trans (actHdrWord_eq_append s), windowRead_plen s, windowRead_raw s,
    fresHi_append_fresLo s, windowRead_ures s⟩

/-! ### STATUS -/

theorem statusWord_fields (s : State) :
    (statusWord s).extractLsb' 0 2 = s.phase.code ∧ (statusWord s).getLsbD 2 = s.pvalid ∧
    (statusWord s).getLsbD 3 = s.xfail ∧ (statusWord s).extractLsb' 4 4 = 0 ∧ (statusWord s).extractLsb' 8 4 = s.err ∧
    (statusWord s).extractLsb' 12 4 = 0 ∧ (statusWord s).extractLsb' 16 8 = s.txcnt ∧
    (statusWord s).extractLsb' 24 8 = s.rxcnt := by
  simp only [statusWord, BitVec.extractLsb'_append_eq_ite, BitVec.getLsbD_append]
  simp

theorem hostRead_status (s : State) : hostRead .word offStatus s = .next (logRead offStatus (statusWord s) s) := rfl

/-- Settles O33. -/
theorem statusFields : Obligations.StatusFields :=
  ⟨fun s => ⟨statusWord s, hostRead_status s, statusWord_fields s⟩, hostRead_status State.reset⟩

/-! ### Buffer windows -/

/-- Each lane of a buffer word is the buffer's byte at that offset (R63). -/
theorem lane_bufferWord (size : Nat) (m : Memory) (i : Nat) {j : Nat} (hj : j < 4) :
    (bufferWord size m i).extractLsb' (8 * j) 8 = Memory.byteAt size m (i + j) := by
  match j, hj with
  | 0, _ => exact lane0_wordOfBytes _ _ _ _
  | 1, _ => exact lane1_wordOfBytes _ _ _ _
  | 2, _ => exact lane2_wordOfBytes _ _ _ _
  | 3, _ => exact lane3_wordOfBytes _ _ _ _

/-- From the first window on, an offset is none of the registers'. -/
theorem windowRead_buffers {off : Nat} (h : 0x100 ≤ off) (s : State) :
    windowRead s off =
      if off < 0x180 then bufferWord txLen s.txb (off - 0x100)
      else if off < 0x1C0 then bufferWord rxLen s.rxb (off - 0x180)
      else bufferWord payloadMax s.payload (off - 0x1C0) := by
  have noRegister {reg : Nat} (hreg : reg < 0x100) : off ≠ reg := by omega
  simp (disch := decide) only [windowRead, noRegister, if_false]

theorem windowRead_txb {k : Nat} (hk : k < 17) (s : State) :
    windowRead s (0x100 + 4 * k) = bufferWord txLen s.txb (4 * k) := by
  rw [windowRead_buffers (by omega), if_pos (by omega), Nat.add_sub_cancel_left]

theorem windowRead_rxb {k : Nat} (hk : k < 16) (s : State) :
    windowRead s (0x180 + 4 * k) = bufferWord rxLen s.rxb (4 * k) := by
  rw [windowRead_buffers (by omega), if_neg (by omega), if_pos (by omega), Nat.add_sub_cancel_left]

theorem windowRead_payload (k : Nat) (s : State) :
    windowRead s (0x1C0 + 4 * k) = bufferWord payloadMax s.payload (4 * k) := by
  rw [windowRead_buffers (by omega), if_neg (by omega), if_neg (by omega), Nat.add_sub_cancel_left]

/-- Settles O34: the sixteen words of the RXB window end with the buffer, the other two windows go past theirs. -/
theorem bufferWindowsShowBytes : Obligations.BufferWindowsShowBytes := by
  intro s k j hj
  refine ⟨fun hk => ?_, fun hk => ?_, fun _ => ?_⟩
  · rw [windowRead_txb hk, lane_bufferWord _ _ _ hj]
    rfl
  · have inRxb : 4 * k + j < rxLen := show 4 * k + j < 64 by omega
    rw [windowRead_rxb hk, lane_bufferWord _ _ _ hj, Memory.byteAt, if_pos inRxb]
  · rw [windowRead_payload, lane_bufferWord _ _ _ hj]
    rfl

end Sys2Proof.Machine
end

section
/-! SUPPORT. What an answer leaves alone and does not look at: the host's registers (R21, R55), and the note of the device's
channel (log entry 6). -/

namespace Sys2Proof.Machine

open Sys2Proof.Config

variable {s t : State}

/-! ### Answers by phase -/

theorem transportAnswer_tx (a : Answer) (tx : s.phase = .tx) : transportAnswer a s = writeAnswer a s := by
  simp only [transportAnswer, tx]

theorem transportAnswer_rx (a : Answer) (rx : s.phase = .rx) : transportAnswer a s = readAnswer a s := by
  simp only [transportAnswer, rx]

/-! ### The host's registers -/

/-- The two states have the same triplet and length in the host's registers. -/
def SameCommand (s t : State) : Prop := t.cmd = s.cmd ∧ t.reg = s.reg ∧ t.sub = s.sub ∧ t.len = s.len

/-- The two states have the same contents in the registers of the decoder. -/
def SameResults (s t : State) : Prop := t.raw = s.raw ∧ t.fres = s.fres ∧ t.ures = s.ures

theorem SameCommand.refl (s : State) : SameCommand s s := ⟨rfl, rfl, rfl, rfl⟩

theorem SameResults.refl (s : State) : SameResults s s := ⟨rfl, rfl, rfl⟩

theorem exec_ctrl_sameCommand {i : Instr} (ctrl : i.format = .ctrl) (h : exec i s = .next t) : SameCommand s t := by
  rcases exec_ctrl_next ctrl h with rfl | ⟨v, rfl⟩ | ⟨v, rfl⟩ | ⟨v, rfl⟩ | h
  · exact .refl _
  · exact .refl s
  · exact .refl s
  · exact .refl s
  · rcases transactOp_next h with ⟨-, rfl⟩ | ⟨-, rfl⟩
    · exact .refl s
    · exact .refl _

theorem validate_sameRegisters (s : State) : SameCommand s (validate s) ∧ SameResults s (validate s) := by
  rcases validate_cases s with ⟨-, e⟩ | ⟨-, e⟩ <;> rw [e] <;> exact ⟨.refl s, .refl s⟩

theorem transportAnswer_sameRegisters {a : Answer} (h : transportAnswer a s = .next t) :
    SameCommand s t ∧ SameResults s t := by
  rcases transportAnswer_next h with ⟨-, h⟩ | ⟨-, h⟩
  · rcases writeAnswer_next h with ⟨-, rfl⟩ | ⟨n, -, -, rfl⟩ | ⟨-, rfl⟩ <;> exact ⟨.refl s, .refl s⟩
  · rcases readAnswer_next h with ⟨b, -, -, rfl⟩ | ⟨b, -, -, rfl⟩ | ⟨-, rfl⟩
    · exact validate_sameRegisters (storeResponse b s)
    · exact ⟨.refl s, .refl s⟩
    · exact ⟨.refl s, .refl s⟩

theorem lateAnswer_sameRegisters {a : Answer} (h : lateAnswer a s = .next t) : SameCommand s t ∧ SameResults s t := by
  obtain ⟨rs, -, rfl⟩ := lateAnswer_next h
  exact ⟨.refl s, .refl s⟩

/-- Settles O58. -/
theorem blockNeverWritesHostRegisters : Obligations.BlockNeverWritesHostRegisters := by
  refine ⟨fun _ _ _ ctrl h => exec_ctrl_sameCommand ctrl h, fun s t a h => ?_⟩
  have ⟨⟨cmd, reg, sub, len⟩, results⟩ : SameCommand s t ∧ SameResults s t :=
    h.elim transportAnswer_sameRegisters lateAnswer_sameRegisters
  exact ⟨cmd, reg, sub, len, results⟩

/-! ### Writes of the host while a transaction is in flight -/

/-- The state with other contents in the registers a host writes in the window. -/
def setHostRegisters (c r u l : Byte) (w : Word) (s : State) : State :=
  { s with cmd := c, reg := r, sub := u, len := l, raw := w }

section
variable (c r u l : Byte) (w : Word)

@[simp] theorem setHostRegisters_phase (s : State) : (setHostRegisters c r u l w s).phase = s.phase := rfl

theorem validate_setHostRegisters (s : State) :
    validate (setHostRegisters c r u l w s) = setHostRegisters c r u l w (validate s) := by
  have same : headerMatches (setHostRegisters c r u l w s) = headerMatches s := rfl
  simp only [validate, same]
  split <;> rfl

theorem writeAnswer_setHostRegisters {a : Answer} (h : writeAnswer a s = .next t) :
    writeAnswer a (setHostRegisters c r u l w s) = .next (setHostRegisters c r u l w t) := by
  rcases writeAnswer_next h with ⟨rfl, rfl⟩ | ⟨n, hn, rfl, rfl⟩ | ⟨rfl, rfl⟩
  · rfl
  · simp only [writeAnswer, if_neg hn.ne, if_pos hn]
    rfl
  · rfl

theorem readAnswer_setHostRegisters {a : Answer} (h : readAnswer a s = .next t) :
    readAnswer a (setHostRegisters c r u l w s) = .next (setHostRegisters c r u l w t) := by
  rcases readAnswer_next h with ⟨b, hb, rfl, rfl⟩ | ⟨b, hb, rfl, rfl⟩ | ⟨rfl, rfl⟩
  · rw [← validate_setHostRegisters]
    simp only [readAnswer, if_pos hb]
    rfl
  · simp only [readAnswer, if_neg hb.ne, if_pos hb]
    rfl
  · rfl

/-- What an answer makes of the transaction does not depend on the registers the host writes (R55). -/
theorem transportAnswer_setHostRegisters {a : Answer} (h : transportAnswer a s = .next t) :
    transportAnswer a (setHostRegisters c r u l w s) = .next (setHostRegisters c r u l w t) := by
  rcases transportAnswer_next h with ⟨tx, h⟩ | ⟨rx, h⟩
  · rw [transportAnswer_tx a ((setHostRegisters_phase c r u l w s).trans tx)]
    exact writeAnswer_setHostRegisters c r u l w h
  · rw [transportAnswer_rx a ((setHostRegisters_phase c r u l w s).trans rx)]
    exact readAnswer_setHostRegisters c r u l w h

end

/-- Settles O35: each of the three writes sets some of the host's registers and leaves the others, which no answer changes. -/
theorem writesDuringTransactionDoNotChangeIt : Obligations.WritesDuringTransactionDoNotChangeIt := by
  intro s t a v h
  have ⟨⟨cmd, reg, sub, len⟩, raw, _, _⟩ := transportAnswer_sameRegisters h
  have triplet : writeTriplet v t
      = setHostRegisters (v.extractLsb' 0 8) (v.extractLsb' 8 8) (v.extractLsb' 16 8) s.len s.raw t := by
    rw [← len, ← raw]; rfl
  have length : writeLen v t = setHostRegisters s.cmd s.reg s.sub (v.extractLsb' 0 8) s.raw t := by
    rw [← cmd, ← reg, ← sub, ← raw]; rfl
  have rawWord : writeRaw v t = setHostRegisters s.cmd s.reg s.sub s.len v t := by
    rw [← cmd, ← reg, ← sub, ← len]; rfl
  rw [triplet, length, rawWord]
  exact ⟨transportAnswer_setHostRegisters _ _ _ _ _ h, transportAnswer_setHostRegisters _ _ _ _ _ h,
    transportAnswer_setHostRegisters _ _ _ _ _ h⟩

/-! ### The note of the device's channel -/

theorem channel_writeAnswer {a : Answer} (h : writeAnswer a s = .next t) :
    t.channel = if a = .accepted txLen then s.channel else none := by
  rcases writeAnswer_next h with ⟨rfl, rfl⟩ | ⟨n, hn, rfl, rfl⟩ | ⟨rfl, rfl⟩
  · rw [if_pos rfl]; rfl
  · rw [if_neg (by simpa using hn.ne)]; rfl
  · rw [if_neg nofun]; rfl

/-- A read answer leaves the note alone, but for a good echo, which ends the transaction (R121). -/
theorem channel_readAnswer {a : Answer} (h : readAnswer a s = .next t) :
    (t.phase = .fault ∧ t.channel = s.channel) ∨ (t.phase = .idle ∧ t.channel = channelAtEcho s) := by
  rcases readAnswer_next h with ⟨b, -, -, rfl⟩ | ⟨b, -, -, rfl⟩ | ⟨-, rfl⟩
  · rcases validate_cases (storeResponse b s) with ⟨-, e⟩ | ⟨-, e⟩ <;> rw [e]
    · exact .inr ⟨rfl, rfl⟩
    · exact .inl ⟨rfl, rfl⟩
  · exact .inl ⟨rfl, rfl⟩
  · exact .inl ⟨rfl, rfl⟩

/-- The good echo of SELECT_CHn (R186 to R188). -/
theorem channelAtEcho_select {n : Channel} (h : HoldsReport s.txb 0x02 0x00 (BitVec.ofNat 8 n.val)) :
    channelAtEcho s = some n := by
  obtain ⟨-, command, register, sub, -⟩ := h
  have value : (Memory.read s.txb 3).toNat = n.val := by
    rw [sub, BitVec.toNat_ofNat]
    exact Nat.mod_eq_of_lt (n.isLt.trans (by decide))
  have isChannel : (Memory.read s.txb 3).toNat < channels := value ▸ n.isLt
  rw [channelAtEcho, if_pos ⟨command, register⟩, dif_pos isChannel]
  exact congrArg some (Fin.ext value)

/-- The good echo of a report that selects no channel of the device. -/
theorem channelAtEcho_other
    (h : Memory.read s.txb 1 ≠ 0x02 ∨ Memory.read s.txb 2 ≠ 0x00 ∨ channels ≤ (Memory.read s.txb 3).toNat) :
    channelAtEcho s = s.channel := by
  rw [channelAtEcho]
  split
  case isTrue select =>
    have noChannel : ¬ (Memory.read s.txb 3).toNat < channels := by
      rcases h with h | h | h
      · exact absurd select.1 h
      · exact absurd select.2 h
      · exact h.not_gt
    rw [dif_neg noChannel]
  case isFalse => rfl

/-- Settles O46. -/
theorem deviceChannelNote : Obligations.DeviceChannelNote := by
  refine ⟨fun s t idle h => ?_, fun s t a tx h => ?_, fun s t a rx h fault => ?_, fun s t b rx h idle => ?_⟩
  · have issued : transactOp s = .next t := h
    rw [transactOp_idle idle] at issued
    obtain rfl := Host.Outcome.next.inj issued
    rfl
  · rw [transportAnswer_tx a tx] at h
    exact channel_writeAnswer h
  · rw [transportAnswer_rx a rx] at h
    rcases channel_readAnswer h with ⟨-, stays⟩ | ⟨idle, -⟩
    · exact stays
    · rw [fault] at idle; cases idle
  · rw [transportAnswer_rx _ rx] at h
    rcases channel_readAnswer h with ⟨fault, -⟩ | ⟨-, echo⟩
    · rw [idle] at fault; cases fault
    · rw [echo]
      exact ⟨fun n => channelAtEcho_select, channelAtEcho_other⟩

/-! ### Reset -/

theorem step_of_reset {rest : List Input} (h : s.inputs = .reset :: rest) :
    step s = .next (resetBlock (setInputs rest s)) := by
  simp only [step, agentStep, h, inputStep]

/-- Settles O50. -/
theorem resetRestoresEveryElement : Obligations.ResetRestoresEveryElement := fun _ _ h =>
  ⟨_, step_of_reset h, rfl, rfl, rfl, rfl, rfl, rfl, rfl, rfl, rfl, rfl, rfl, rfl, read_nil, read_nil, read_nil, rfl, rfl, rfl⟩

end Sys2Proof.Machine
end

section
/-! SUPPORT. Which host accesses are refused (R61 to R64), and what an answered read does. -/

namespace Sys2Proof.Machine

variable {s t : State}

/-- The accesses without a meaning: narrow (R61), misaligned (R62), or at an unmapped offset (R64). -/
def OutsideTheMap (w : Width) (off : Nat) : Prop :=
  w ≠ .word ∨ off % 4 ≠ 0 ∨ (0x02C ≤ off ∧ off ≤ 0x0FC) ∨ (0x144 ≤ off ∧ off ≤ 0x17C) ∨ 0x200 ≤ off

/-- R64 names the gaps of the map by their words, so it speaks of the aligned offsets alone. -/
theorem mapped_iff_of_aligned {off : Nat} (aligned : off % 4 = 0) :
    mapped off = true ↔
      ¬ ((0x02C ≤ off ∧ off ≤ 0x0FC) ∨ (0x144 ≤ off ∧ off ≤ 0x17C) ∨ 0x200 ≤ off) := by
  simp only [mapped, Bool.or_eq_true, Bool.and_eq_true, decide_eq_true_eq]
  omega

theorem accessRefusal_none_iff {w : Width} {off : Nat} : accessRefusal w off = none ↔ ¬ OutsideTheMap w off := by
  simp only [OutsideTheMap, not_or, ne_eq, not_not, accessRefusal_none]
  refine and_congr_right fun _ => and_congr_right fun aligned => ?_
  rw [mapped_iff_of_aligned aligned, not_or, not_or]

theorem exists_accessRefusal {w : Width} {off : Nat} (h : OutsideTheMap w off) : ∃ r, accessRefusal w off = some r :=
  Option.ne_none_iff_exists'.mp fun meaning => accessRefusal_none_iff.mp meaning h

theorem hostRead_refused {w : Width} {off : Nat} {r : Refusal} (h : accessRefusal w off = some r) (s : State) :
    hostRead w off s = .refused r := by
  simp only [hostRead, h]

theorem hostRead_answered {w : Width} {off : Nat} (h : accessRefusal w off = none) (s : State) :
    hostRead w off s = .next (logRead off (windowRead s off) s) := by
  simp only [hostRead, h]

theorem hostWrite_refused {w : Width} {off : Nat} {r : Refusal} (h : accessRefusal w off = some r) (v : Word) (s : State) :
    hostWrite w off v s = .refused r := by
  simp only [hostWrite, h]

/-- Settles O28: outside the map the read and the write have the same reason to be refused; inside it the read is answered,
and a write that is not of CTRL is the window's. -/
theorem accessesRefusedOutsideTheMap : Obligations.AccessesRefusedOutsideTheMap := by
  intro s w off v bad
  by_cases outside : OutsideTheMap w off
  · obtain ⟨r, refusal⟩ := exists_accessRefusal outside
    have write := hostWrite_refused refusal v s
    rw [hostRead_refused refusal s]
    exact ⟨⟨fun _ => outside, fun _ => ⟨r, rfl⟩⟩, ⟨nofun, fun inside => absurd outside inside⟩, fun _ => ⟨r, write⟩,
      fun _ inside => absurd outside inside⟩
  · have access := accessRefusal_none_iff.mpr outside
    obtain ⟨rfl, aligned, map⟩ := accessRefusal_none.mp access
    rw [hostRead_answered access s]
    exact ⟨⟨nofun, fun h => absurd h outside⟩, ⟨fun _ => outside, fun _ => ⟨_, rfl⟩⟩, fun h => absurd h outside,
      fun notCtrl _ => ⟨_, hostWrite_window aligned map notCtrl v s⟩⟩

/-- Settles O29. -/
theorem hostReadHasNoSideEffect : Obligations.HostReadHasNoSideEffect := fun _ _ _ _ h => (hostRead_next h).2

end Sys2Proof.Machine
end

section
/-! SUPPORT. When the Transport is given a report (R72, R111, R123). -/

namespace Sys2Proof.Machine

open Sys2Proof.Config

variable {s t : State}

/-! ### What the transaction's part of the state determines -/

theorem phase_of_transaction (h : transaction t = transaction s) : t.phase = s.phase :=
  (congrArg State.phase h :)

theorem sent_of_transaction (h : transaction t = transaction s) : t.sent = s.sent :=
  (congrArg State.sent h :)

theorem txb_of_transaction (h : transaction t = transaction s) : t.txb = s.txb :=
  (congrArg State.txb h :)

/-! ### Reports -/

/-- Issue hands over TXB as it has just framed it. -/
theorem issueReport_sent_txb (s : State) :
    (issueReport s).sent = s.sent ++ [Memory.bytes txLen (issueReport s).txb] := by
  rw [issueReport_sent, issueReport_txb]

theorem sent_validate (s : State) : (validate s).sent = s.sent := by
  rcases validate_cases s with ⟨-, e⟩ | ⟨-, e⟩ <;> rw [e] <;> rfl

theorem sent_transportAnswer {a : Answer} (h : transportAnswer a s = .next t) : t.sent = s.sent := by
  rcases transportAnswer_next h with ⟨-, h⟩ | ⟨-, h⟩
  · rcases writeAnswer_next h with ⟨-, rfl⟩ | ⟨n, -, -, rfl⟩ | ⟨-, rfl⟩ <;> rfl
  · rcases readAnswer_next h with ⟨b, -, -, rfl⟩ | ⟨b, -, -, rfl⟩ | ⟨-, rfl⟩
    · exact sent_validate (storeResponse b s)
    · rfl
    · rfl

/-- An answer needs a pending request, and IDLE has none (R53). -/
theorem transportAnswer_phase_ne_idle {a : Answer} (h : transportAnswer a s = .next t) : s.phase ≠ .idle := by
  rcases transportAnswer_next h with ⟨tx, -⟩ | ⟨rx, -⟩
  · rw [tx]; nofun
  · rw [rx]; nofun

/-- Settles O57: of the moves of the block, issue alone hands over a report. What keeps the transaction stays in its phase,
an answer does not find the block in IDLE, and a reset does not leave it in TX. -/
theorem reportsAreSentAtIssueOnly : Obligations.ReportsAreSentAtIssueOnly := by
  intro s t h
  rcases step_blockMove h with (keeps | ⟨u, idle, hu, ht⟩) | ⟨u, hu, ⟨a, answer⟩ | rfl⟩
  · have phase := phase_of_transaction keeps
    exact .inl ⟨sent_of_transaction keeps, fun idle => by rw [phase, idle]; nofun⟩
  · refine .inr ⟨(phase_of_transaction hu).symm.trans idle, phase_of_transaction ht, ?_⟩
    rw [sent_of_transaction ht, txb_of_transaction ht, issueReport_sent_txb, sent_of_transaction hu]
  · exact .inl ⟨(sent_transportAnswer answer).trans (sent_of_transaction hu),
      fun idle => absurd ((phase_of_transaction hu).trans idle) (transportAnswer_phase_ne_idle answer)⟩
  · rw [resetBlock_sent, resetBlock_phase]
    exact .inl ⟨sent_of_transaction hu, nofun⟩

end Sys2Proof.Machine
end

section
/-! SUPPORT. Decode and encode agree (R80 to R85, R172 to R188): the decoder's tables one by one, then its two formats. -/

namespace Sys2Proof.Machine

variable {p : Params} {i : Instr}

/-! ### From the instruction -/

/-- READ_NAME alone is decoded by the parameters, and the decoder asks of its sub-index what well-formedness asks (R185). -/
theorem decode_encode (wf : i.wf p = true) : decode p i.format (encode i) = .ok i := by
  cases i with
  | readName sub =>
    obtain rfl : sub = p.nameSubidx := beq_iff_eq.mp wf
    simp [Instr.format, encode, decode, knownTriplet]
  | _ => rfl

/-! ### From the bytes -/

/-- The bytes are the word of the instruction in the format, and the parameters make it a row of the table. -/
def IsRow (p : Params) (f : Format) (bs : List Byte) (i : Instr) : Prop :=
  i.wf p = true ∧ i.format = f ∧ encode i = bs

theorem isRow_of_decodeReadRegister {r : Byte} (h : decodeReadRegister r = some i) : IsRow p .triplet [0x03, r, 0x00] i := by
  unfold decodeReadRegister at h
  split at h
  case h_13 => cases h
  all_goals
    rename_i address
    obtain rfl := (BitVec.toNat_eq_nat.mp address).2
    obtain rfl := Option.some.inj h
    exact ⟨rfl, rfl, rfl⟩

theorem isRow_of_decodeSelect {u : Byte} (h : decodeSelect u = some i) : IsRow p .triplet [0x02, 0x00, u] i := by
  unfold decodeSelect at h
  split at h
  case h_4 => cases h
  all_goals
    rename_i channel
    obtain rfl := (BitVec.toNat_eq_nat.mp channel).2
    obtain rfl := Option.some.inj h
    exact ⟨rfl, rfl, rfl⟩

theorem isRow_of_knownTriplet {c r u : Byte} (h : knownTriplet p c r u = some i) : IsRow p .triplet [c, r, u] i := by
  unfold knownTriplet at h
  split_ifs at h with read select name
  · obtain ⟨rfl, rfl⟩ := read
    exact isRow_of_decodeReadRegister h
  · obtain ⟨rfl, rfl⟩ := select
    exact isRow_of_decodeSelect h
  · obtain ⟨rfl, rfl, rfl⟩ := name
    obtain rfl := Option.some.inj h
    exact ⟨beq_iff_eq.mpr rfl, rfl, rfl⟩

theorem isRow_of_decode_triplet {c r u : Byte} (h : decode p .triplet [c, r, u] = .ok i) :
    IsRow p .triplet [c, r, u] i := by
  cases known : knownTriplet p c r u with
  | none => simp [decode, known] at h
  | some k =>
    obtain rfl : k = i := by simpa [decode, known] using h
    exact isRow_of_knownTriplet known

/-- The operations of R82, with the bits that are no part of OP zero. -/
theorem isRow_of_decodeOp {op : BitVec 4} (h : decodeOp op = .ok i) : IsRow p .ctrl (wordBytes (op.setWidth 32)) i := by
  unfold decodeOp at h
  split at h
  case h_7 => cases h
  all_goals
    rename_i code
    obtain rfl := (BitVec.toNat_eq_nat.mp code).2
    obtain rfl := Except.ok.inj h
    exact ⟨rfl, rfl, rfl⟩

/-! ### CTRL words -/

/-- Of a CTRL word the decoder reads bits [3:0] alone (R81, R84). -/
theorem decode_ctrl_word (p : Params) (v : Word) : decode p .ctrl (wordBytes v) = decodeOp (v.extractLsb' 0 4) := by
  have lane : (v.extractLsb' 0 8).extractLsb' 0 4 = v.extractLsb' 0 4 := by simp
  exact congrArg decodeOp lane

theorem and_lowBits_eq_setWidth (v : Word) : v &&& 0x0000000F = (v.extractLsb' 0 4).setWidth 32 := by
  have low : v.toNat &&& 0xF = v.toNat % 2 ^ 4 := Nat.and_two_pow_sub_one_eq_mod v.toNat 4
  apply BitVec.eq_of_toNat_eq
  simp only [BitVec.toNat_and, BitVec.toNat_setWidth, BitVec.extractLsb'_toNat, Nat.shiftRight_zero]
  change v.toNat &&& 0xF = _
  omega

theorem extractLsb'_and_lowBits (v : Word) : (v &&& 0x0000000F).extractLsb' 0 4 = v.extractLsb' 0 4 := by
  rw [and_lowBits_eq_setWidth, BitVec.extractLsb'_setWidth_of_le (by decide), BitVec.extractLsb'_eq_self]

theorem isRow_of_decode_ctrl {v : Word} (h : decode p .ctrl (wordBytes v) = .ok i) :
    IsRow p .ctrl (wordBytes (v &&& 0x0000000F)) i := by
  rw [decode_ctrl_word] at h
  rw [and_lowBits_eq_setWidth]
  exact isRow_of_decodeOp h

theorem length_of_decode {f : Format} {bs : List Byte} (h : decode p f bs = .ok i) : bs.length = f.byteLength := by
  unfold decode at h
  split at h
  · rfl
  · rfl
  · cases h

/-- Settles O1: an encoding decodes to its instruction, what decodes is a row of a table, and only whole words decode. -/
theorem decodeAndEncodeAgree : Obligations.DecodeAndEncodeAgree :=
  ⟨fun _ _ => decode_encode, fun _ _ _ _ _ => isRow_of_decode_triplet, fun _ _ _ => isRow_of_decode_ctrl,
    fun _ _ _ _ => length_of_decode⟩

/-! ### Table words -/

theorem decodeTableWord_of_encode {nbits w : Nat} (wf : i.wf Params.default = true) (format : tableFormat nbits = i.format)
    (bytes : tableBytes nbits w = encode i) : decodeTableWord nbits w = some i := by
  simp only [decodeTableWord, format, bytes, decode_encode wf]

/-- Settles O3: each word is the encoding of its instruction in the format its width tells. -/
theorem tableWordsDecode : Obligations.TableWordsDecode :=
  ⟨decodeTableWord_of_encode rfl rfl rfl, decodeTableWord_of_encode rfl rfl rfl, decodeTableWord_of_encode rfl rfl rfl,
    decodeTableWord_of_encode rfl rfl rfl, decodeTableWord_of_encode rfl rfl rfl, decodeTableWord_of_encode rfl rfl rfl,
    decodeTableWord_of_encode rfl rfl rfl, decodeTableWord_of_encode rfl rfl rfl⟩

end Sys2Proof.Machine
end

section
/-! SUPPORT. CTRL writes by their OP (R81 to R84): what a write does depends on bits [3:0] alone, and the reserved values are
refused. -/

namespace Sys2Proof.Machine

variable {s : State}

/-- Words with the same OP are the same CTRL write. -/
theorem ctrlWrite_congr {v w : Word} (h : v.extractLsb' 0 4 = w.extractLsb' 0 4) : ctrlWrite v s = ctrlWrite w s := by
  have same : decode s.params .ctrl (wordBytes v) = decode s.params .ctrl (wordBytes w) := by
    rw [decode_ctrl_word, decode_ctrl_word, h]
  unfold ctrlWrite
  rw [same]

/-- Settles O2: masking leaves OP as it is. -/
theorem ctrlUpperBitsIgnored : Obligations.CtrlUpperBitsIgnored := fun s v =>
  calc hostWrite .word offCtrl v s
      = ctrlWrite v s := hostWrite_ctrl v s
    _ = ctrlWrite (v &&& 0x0000000F) s := ctrlWrite_congr (extractLsb'_and_lowBits v).symm
    _ = hostWrite .word offCtrl (v &&& 0x0000000F) s := (hostWrite_ctrl _ s).symm

/-- R83: OP 6 to 15 is no row of R82. -/
theorem decodeOp_reserved {op : BitVec 4} (h : 6 ≤ op.toNat) : decodeOp op = .error (.reservedOp op) := by
  unfold decodeOp
  split
  case h_7 => rfl
  all_goals omega

theorem ctrlWrite_of_decode_error {v : Word} {e : DecodeError} (h : decode s.params .ctrl (wordBytes v) = .error e) :
    ctrlWrite v s = .refused (.undecodable e) := by
  simp only [ctrlWrite, h]

/-- Settles O4. -/
theorem reservedOpRefused : Obligations.ReservedOpRefused := fun s v reserved =>
  (hostWrite_ctrl v s).trans
    (ctrlWrite_of_decode_error ((decode_ctrl_word s.params v).trans (decodeOp_reserved reserved)))

end Sys2Proof.Machine
end

section
/-! SUPPORT. What the host's `wait` and `check` pick out of STATUS (R92, R255). -/

namespace Sys2Proof.Machine

variable {s : State}

theorem statusPhase_statusWord (s : State) : statusPhase (statusWord s) = s.phase.code := (statusWord_fields s).1

theorem statusErr_statusWord (s : State) : statusErr (statusWord s) = s.err := by
  obtain ⟨-, -, -, -, err, -⟩ := statusWord_fields s
  exact err

theorem statusDone_statusWord (s : State) : statusDone (statusWord s) = true ↔ s.phase = .idle ∨ s.phase = .fault := by
  rw [statusDone, statusPhase_statusWord]
  cases s.phase <;> decide

theorem statusFault_statusWord (s : State) : statusFault (statusWord s) = true ↔ s.phase = .fault := by
  rw [statusFault, statusPhase_statusWord]
  cases s.phase <;> decide

theorem hostWait_eq (s : State) :
    hostWait s = if s.phase = .idle ∨ s.phase = .fault then s else setProgram (.wait :: s.program) s := by
  simp only [hostWait, statusDone_statusWord]

theorem hostCheck_eq (s : State) : hostCheck s = if s.phase = .fault then stopHost s.err s else s := by
  simp only [hostCheck, statusFault_statusWord, statusErr_statusWord]

/-- A host that waits again has its program back as it was. -/
theorem setProgram_restore {q r : List HostAction} (h : s.program = q) : setProgram q (setProgram r s) = s := by
  rw [← h]
  rfl

/-- Settles O36: what the two read in STATUS is the phase itself, and taking the action from the program leaves it alone. -/
theorem waitAndCheckReadStatus : Obligations.WaitAndCheckReadStatus := by
  refine fun s rest => ⟨fun hprog => ?_, fun hprog => ?_⟩
  · have again : setProgram (.wait :: rest) (setProgram rest s) = s := setProgram_restore hprog
    calc hostStep s
        = .next (hostWait (setProgram rest s)) := hostStep_of_program hprog
      _ = .next (if s.phase = .idle ∨ s.phase = .fault then setProgram rest s else s) := by
        rw [hostWait_eq, setProgram_program, again, setProgram_phase]
  · calc hostStep s
        = .next (hostCheck (setProgram rest s)) := hostStep_of_program hprog
      _ = .next (if s.phase = .fault then stopHost s.err (setProgram rest s) else setProgram rest s) := by
        rw [hostCheck_eq, setProgram_phase, setProgram_err]

end Sys2Proof.Machine
end

section
/-! SUPPORT. Wire commands (R89, R111, R208): what the one step of a command issues, and the three accesses it stands for. -/

namespace Sys2Proof.Machine

open Sys2Proof.Config

variable {s : State} {d : Descriptor}

/-! ### The command as a TRANSACT -/

theorem commandSetup_eq (d : Descriptor) (s : State) :
    commandSetup d s = { s with cmd := d.command, reg := d.register, sub := d.subIndex, len := d.len } := by
  have len : d.lenWord.extractLsb' 0 8 = d.len := by
    rw [Descriptor.lenWord, BitVec.extractLsb'_setWidth_of_le (by decide), BitVec.extractLsb'_eq_self]
  simp only [commandSetup, writeLen, writeTriplet, Descriptor.word, lane0_wordOfBytes, lane1_wordOfBytes,
    lane2_wordOfBytes, len]

theorem runCommand_of_next {t : State} (h : transactOp (commandSetup d s) = .next t) :
    runCommand d s = .next (setProgram (afterIssue d.kind ++ t.program) t) := by
  unfold commandSetup at h
  simp only [runCommand, h]

theorem runCommand_of_refused {r : Refusal} (h : transactOp (commandSetup d s) = .refused r) :
    runCommand d s = .refused r := by
  unfold commandSetup at h
  simp only [runCommand, h]

theorem commandSetup_phase (d : Descriptor) (s : State) : (commandSetup d s).phase = s.phase := rfl

theorem commandSetup_program (d : Descriptor) (s : State) : (commandSetup d s).program = s.program := rfl

theorem issueReport_setProgram (r : List HostAction) (s : State) :
    issueReport (setProgram r s) = setProgram r (issueReport s) := by
  have channel : channelAtIssue (setProgram r s) = channelAtIssue s := rfl
  simp only [issueReport, channel]
  simp only [setProgram]

/-- A command is its TRANSACT in the state with the registers written and the host's next actions in place: TRANSACT neither
reads nor writes the host's program. -/
theorem runCommand_eq_transactOp (d : Descriptor) (s : State) :
    runCommand d s = transactOp (setProgram (afterIssue d.kind ++ s.program) (commandSetup d s)) := by
  have setup : (commandSetup d s).phase = s.phase := commandSetup_phase d s
  have placed : (setProgram (afterIssue d.kind ++ s.program) (commandSetup d s)).phase = s.phase := commandSetup_phase d s
  have busy (h : s.phase = .tx ∨ s.phase = .rx) :
      runCommand d s = transactOp (setProgram (afterIssue d.kind ++ s.program) (commandSetup d s)) := by
    rw [runCommand_of_refused (transactOp_busy (setup ▸ h)), transactOp_busy (placed ▸ h)]
  cases phase : s.phase with
  | idle =>
    rw [runCommand_of_next (transactOp_idle (setup.trans phase)), transactOp_idle (placed.trans phase),
      issueReport_setProgram, issueReport_program, commandSetup_program]
  | tx => exact busy (.inl phase)
  | rx => exact busy (.inr phase)
  | fault =>
    rw [runCommand_of_next (transactOp_fault (setup.trans phase)), transactOp_fault (placed.trans phase),
      commandSetup_program]

/-! ### Issue -/

/-- A buffer made of a command report holds it, byte by byte (R86). -/
theorem holdsReport_ofBytes (c r u : Byte) : HoldsReport (Memory.ofBytes (cmdReport c r u)) c r u := by
  simp only [HoldsReport, read_ofBytes, getD_cmdReport]
  refine ⟨rfl, rfl, rfl, rfl, fun j hj => ?_⟩
  rw [if_neg (by omega), if_neg (by omega), if_neg (by omega)]

/-- Every command, in the table or not, is issued in IDLE with its own triplet, length and decode kind (R89, R111). -/
theorem issuedFrom_runCommand (idle : s.phase = .idle) :
    IssuedFrom s d.command d.register d.subIndex d.len d.kind (runCommand d s) := by
  refine ⟨Memory.ofBytes (cmdReport d.command d.register d.subIndex), [], [], channelAtIssue (commandSetup d s), ?_,
    holdsReport_ofBytes _ _ _, read_nil, read_nil⟩
  rw [runCommand_eq_transactOp, transactOp_idle (by exact idle), commandSetup_eq]
  simp only [issueReport, setProgram, bytes_cmdReport]
  rfl

theorem hostCommand_of_decode_error {w : Triplet} {e : DecodeError}
    (h : decode s.params .triplet (tripletBytes w) = .error e) : hostCommand w s = runUnlisted w s := by
  simp only [hostCommand, h]

/-- Settles O42: the host runs a triplet the decoder rejects as a command of its own, with LEN as it stands. -/
theorem unlistedTripletsAreFramed : Obligations.UnlistedTripletsAreFramed := by
  intro s w e idle unlisted
  rw [hostCommand_of_decode_error unlisted]
  exact issuedFrom_runCommand idle

/-! ### Access by access -/

/-- An instruction with a descriptor is the wire command of it. -/
theorem exec_of_descriptor {i : Instr} (h : descriptorOf s.params i = some d) : exec i s = runCommand d s := by
  cases i with
  | nop | transact | decLf16 | decU32 | loadRaw16 | loadRaw32 => cases h
  | _ =>
    obtain rfl := Option.some.inj h
    rfl

theorem hostTurn_of_noInputs (h : s.inputs = []) : hostTurn s = some s := by
  simp only [hostTurn, h]

/-- A host with no inputs before it and an action to do does it. -/
theorem step_setProgram_cons {a : HostAction} {rest : List HostAction} (turn : s.inputs = []) :
    step (setProgram (a :: rest) s) = hostAct a (setProgram rest s) :=
  step_of_hostAction (t := setProgram (a :: rest) s) (hostTurn_of_noInputs turn) rfl

theorem step_sw_triplet {v : Word} {rest : List HostAction} (turn : s.inputs = []) :
    step (setProgram (sw offTriplet v :: rest) s) = .next (setProgram rest (writeTriplet v s)) :=
  (step_setProgram_cons turn).trans (hostWrite_window (off := offTriplet) rfl rfl (by decide) v _)

theorem step_sw_len {v : Word} {rest : List HostAction} (turn : s.inputs = []) :
    step (setProgram (sw offLen v :: rest) s) = .next (setProgram rest (writeLen v s)) :=
  (step_setProgram_cons turn).trans (hostWrite_window (off := offLen) rfl rfl (by decide) v _)

theorem decode_opWord {p : Params} {i : Instr} (ctrl : i.format = .ctrl) :
    decode p .ctrl (wordBytes (opWord i)) = .ok i := by
  cases i with
  | nop | transact | decLf16 | decU32 | loadRaw16 | loadRaw32 => rfl
  | _ => cases ctrl

/-- `op` is the instruction it names (R82, R92). -/
theorem step_op {i : Instr} {rest : List HostAction} (ctrl : i.format = .ctrl) (turn : s.inputs = []) :
    step (setProgram (op i :: rest) s) = exec i (setProgram rest s) :=
  calc step (setProgram (op i :: rest) s)
      = hostWrite .word offCtrl (opWord i) (setProgram rest s) := step_setProgram_cons turn
    _ = ctrlWrite (opWord i) (setProgram rest s) := hostWrite_ctrl _ _
    _ = exec i (setProgram rest s) := ctrlWrite_of_decode (decode_opWord ctrl)

/-- The two register writes make the state a command issues its TRANSACT in, and the third step is that TRANSACT, whatever
comes of it. -/
theorem run_xactWrites (rest : List HostAction) (turn : s.inputs = []) :
    Host.Core.run Sys2Proof.core 3 (setProgram (xactWrites d.word d.lenWord ++ rest) s) =
      transactOp (setProgram rest (commandSetup d s)) := by
  have triplet : step (setProgram (xactWrites d.word d.lenWord ++ rest) s) =
      .next (setProgram (sw offLen d.lenWord :: op .transact :: rest) (writeTriplet d.word s)) := step_sw_triplet turn
  have len : step (setProgram (sw offLen d.lenWord :: op .transact :: rest) (writeTriplet d.word s)) =
      .next (setProgram (op .transact :: rest) (commandSetup d s)) := step_sw_len turn
  have transact : step (setProgram (op .transact :: rest) (commandSetup d s)) =
      transactOp (setProgram rest (commandSetup d s)) := step_op rfl turn
  rw [run_succ triplet, run_succ len, run_one, transact]

/-- Settles O43: both sides are the TRANSACT after the two register writes, with the same actions left to the host. -/
theorem wireCommandIsItsAccesses : Obligations.WireCommandIsItsAccesses := by
  intro s i d descriptor turn
  rw [Descriptor.procedure, List.append_assoc, run_xactWrites _ turn, ← runCommand_eq_transactOp,
    exec_of_descriptor descriptor]

end Sys2Proof.Machine
end

section
/-! SUPPORT. TRANSACT by phase (R111 to R113), as an operation of CTRL and as the end of a wire command. -/

namespace Sys2Proof.Machine

open Sys2Proof.Config

variable {s : State}

/-- A CTRL write whose OP decodes to an instruction runs it, whatever the other bits (R82, R84). -/
theorem runsOnOp_of_decodeOp {i : Instr} {n : BitVec 4} (h : decodeOp n = .ok i) : RunsOnOp i n := by
  rintro s v rfl
  calc hostWrite .word offCtrl v s
      = ctrlWrite v s := hostWrite_ctrl v s
    _ = exec i s := ctrlWrite_of_decode ((decode_ctrl_word s.params v).trans h)

theorem exec_transact (s : State) : exec .transact s = transactOp s := rfl

/-- Settles O8. -/
theorem transactWhileBusyRefused : Obligations.TransactWhileBusyRefused := fun s busy =>
  (exec_transact s).trans (transactOp_busy busy)

/-- Settles O9. -/
theorem transactInFaultDropped : Obligations.TransactInFaultDropped := fun s fault =>
  (exec_transact s).trans (transactOp_fault fault)

/-- Settles O7: the report is framed as TXB, and the invariant has ERR at 0 in IDLE, where issue leaves it. -/
theorem transactIssuesInIdle : Obligations.TransactIssuesInIdle :=
  ⟨runsOnOp_of_decodeOp rfl, fun s idle =>
    ⟨issueReport s, Memory.ofBytes (cmdReport s.cmd s.reg s.sub), [], [], channelAtIssue s,
      (exec_transact s).trans (transactOp_idle idle), rfl, holdsReport_ofBytes _ _ _, read_nil, read_nil, rfl,
      fun good => good.errNone.mpr (by simp [idle])⟩⟩

/-- Settles O41: a wire command is its TRANSACT after the writes of its triplet and length. -/
theorem wireCommandsOutsideIdle : Obligations.WireCommandsOutsideIdle := by
  intro s i d descriptor
  rw [exec_of_descriptor descriptor]
  refine ⟨fun busy => runCommand_of_refused (transactOp_busy busy), fun fault => ?_⟩
  rw [runCommand_of_next (transactOp_fault fault), commandSetup_eq]
  rfl

end Sys2Proof.Machine
end

section
/-! SUPPORT. What each answer of the Transport does, in the phase that waits for it (R114 to R121), and which answers are
refused (R122). -/

namespace Sys2Proof.Machine

open Sys2Proof.Config

variable {s : State} {a : Answer} {b : List Byte}

/-! ### What the invariant says of the buffers -/

theorem GoodState.payload_nil (h : GoodState s) (notIdle : s.phase ≠ .idle) : s.payload = [] :=
  (h.invalidPayload (h.pvalid_false notIdle)).1

theorem allZero_of_nil {m : Memory} (h : m = []) : AllZero m := h ▸ read_nil

/-! ### The write answer -/

theorem transportAnswer_fullWrite (tx : s.phase = .tx) :
    transportAnswer (.accepted txLen) s = .next (acceptReport s) :=
  (transportAnswer_tx _ tx).trans rfl

theorem transportAnswer_shortWrite {n : Nat} (tx : s.phase = .tx) (hn : n < txLen) :
    transportAnswer (.accepted n) s = .next (shortWrite n s) := by
  rw [transportAnswer_tx _ tx, writeAnswer, if_neg hn.ne, if_pos hn]

theorem transportAnswer_failedWrite (tx : s.phase = .tx) : transportAnswer .fail s = .next (failedWrite s) :=
  (transportAnswer_tx _ tx).trans rfl

/-- Settles O19. -/
theorem fullWriteStartsRead : Obligations.FullWriteStartsRead := fun s tx =>
  ⟨acceptReport s, transportAnswer_fullWrite tx, rfl, rfl⟩

/-- Settles O20: what a short write leaves alone was cleared at issue. -/
theorem shortWriteFaults : Obligations.ShortWriteFaults := by
  intro s n tx hn
  have notIdle : s.phase ≠ .idle := by simp [tx]
  refine ⟨shortWrite n s, none, transportAnswer_shortWrite tx (Nat.lt_succ_of_le hn), rfl, fun good => ?_⟩
  have ⟨_, _, rxbNil⟩ := good.inTx tx
  exact ⟨good.xfail_false (by simp [tx]), allZero_of_nil rxbNil, allZero_of_nil (good.payload_nil notIdle),
    good.pvalid_false notIdle⟩

/-- Settles O21. -/
theorem failedWriteFaults : Obligations.FailedWriteFaults := fun _ tx => ⟨none, transportAnswer_failedWrite tx⟩

/-! ### The read answer -/

theorem transportAnswer_fullRead (rx : s.phase = .rx) (hb : b.length = rxLen) :
    transportAnswer (.data b) s = .next (validate (storeResponse b s)) := by
  rw [transportAnswer_rx _ rx, readAnswer, if_pos hb, fullRead]

theorem transportAnswer_shortRead (rx : s.phase = .rx) (hb : b.length < rxLen) :
    transportAnswer (.data b) s = .next (shortRead b s) := by
  rw [transportAnswer_rx _ rx, readAnswer, if_neg hb.ne, if_pos hb]

theorem transportAnswer_failedRead (rx : s.phase = .rx) : transportAnswer .fail s = .next (failedRead s) :=
  (transportAnswer_rx _ rx).trans rfl

/-- A response lands at the start of RXB and leaves the rest (R118, R119). -/
theorem read_storeResponse (b : List Byte) (s : State) (j : Nat) :
    Memory.read (storeResponse b s).rxb j = if j < b.length then b.getD j 0x00 else Memory.read s.rxb j := by
  simp [read_writeBytes]

theorem read_storeResponse_of_lt {j : Nat} (hj : j < b.length) :
    Memory.read (storeResponse b s).rxb j = b.getD j 0x00 := by
  rw [read_storeResponse, if_pos hj]

/-- Settles O22. -/
theorem failedReadFaults : Obligations.FailedReadFaults := by
  refine fun s rx => ⟨failedRead s, transportAnswer_failedRead rx, rfl, fun good => ?_⟩
  have ⟨_, _, rxbNil⟩ := good.inRx rx
  exact allZero_of_nil rxbNil

/-- Settles O23. -/
theorem shortReadFaults : Obligations.ShortReadFaults := by
  intro s b rx hb
  refine ⟨shortRead b s, (storeResponse b s).rxb, transportAnswer_shortRead rx (Nat.lt_succ_of_le hb), rfl,
    read_storeResponse b s, fun good => ⟨good.xfail_false (by simp [rx]), fun j hj => ?_⟩⟩
  have ⟨_, _, rxbNil⟩ := good.inRx rx
  rw [read_storeResponse, if_neg hj.not_gt, rxbNil, read_nil]

/-! ### Validation -/

theorem validate_of_goodEcho (h : EchoGood s) : validate s = extractPayload s := if_pos (headerMatches_iff.mpr h)

theorem validate_of_wrongEcho (h : ¬ EchoGood s) : validate s = mismatch s := if_neg (headerMatches_iff.not.mpr h)

/-- Of a full response the header compared is its own first two bytes (R120). -/
theorem echoGood_storeResponse_iff (hb : b.length = rxLen) :
    EchoGood (storeResponse b s) ↔ b.getD 0 0x00 = Memory.read s.txb 1 ∧ b.getD 1 0x00 = Memory.read s.txb 2 := by
  have byte0 : 0 < b.length := hb ▸ Nat.zero_lt_succ _
  have byte1 : 1 < b.length := hb ▸ Nat.succ_lt_succ (Nat.zero_lt_succ _)
  rw [EchoGood, read_storeResponse_of_lt byte0, read_storeResponse_of_lt byte1, storeResponse_txb]

theorem transportAnswer_goodEcho (rx : s.phase = .rx) (hb : b.length = rxLen)
    (command : b.getD 0 0x00 = Memory.read s.txb 1) (register : b.getD 1 0x00 = Memory.read s.txb 2) :
    transportAnswer (.data b) s = .next (extractPayload (storeResponse b s)) := by
  rw [transportAnswer_fullRead rx hb, validate_of_goodEcho ((echoGood_storeResponse_iff hb).mpr ⟨command, register⟩)]

theorem transportAnswer_wrongEcho (rx : s.phase = .rx) (hb : b.length = rxLen)
    (wrong : b.getD 0 0x00 ≠ Memory.read s.txb 1 ∨ b.getD 1 0x00 ≠ Memory.read s.txb 2) :
    transportAnswer (.data b) s = .next (mismatch (storeResponse b s)) := by
  have notGood : ¬ EchoGood (storeResponse b s) := (echoGood_storeResponse_iff hb).not.mpr (not_and_or.mpr wrong)
  rw [transportAnswer_fullRead rx hb, validate_of_wrongEcho notGood]

theorem rxcnt_full (hb : b.length = rxLen) : BitVec.ofNat 8 b.length = (64 : Byte) := by rw [hb]; rfl

/-- The lower half of a word is its two lower lanes (R63). -/
theorem lowHalf_wordOfBytes (b0 b1 b2 b3 : Byte) : (wordOfBytes b0 b1 b2 b3).extractLsb' 0 16 = b1 ++ b0 := by
  simp only [wordOfBytes, BitVec.extractLsb'_append_eq_ite]
  simp

/-- Settles O24: the mismatch fault leaves the response and TXB for the diagnostics to show. -/
theorem wrongEchoFaults : Obligations.WrongEchoFaults := by
  intro s b rx hb wrong
  have notIdle : s.phase ≠ .idle := by simp [rx]
  have stored {j : Nat} (hj : j < 64) : Memory.read (storeResponse b s).rxb j = b.getD j 0x00 :=
    read_storeResponse_of_lt (hb ▸ hj)
  refine ⟨mismatch (storeResponse b s), (storeResponse b s).rxb, transportAnswer_wrongEcho rx hb wrong, ?_,
    fun j hj => stored hj, ?_, ?_, fun good => ⟨good.pvalid_false notIdle, allZero_of_nil (good.payload_nil notIdle), ?_⟩⟩
  · rw [← rxcnt_full hb]
    rfl
  · exact lowHalf_wordOfBytes _ _ _ _
  · rw [← stored (j := 0) (by decide), ← stored (j := 1) (by decide)]
    exact lowHalf_wordOfBytes _ _ _ _
  · exact BitVec.eq_of_toNat_eq (good.invalidPayload (good.pvalid_false notIdle)).2

/-- Extraction writes the kept bytes at the start of PAYLOAD and leaves the rest (R121). -/
theorem read_extractPayload_payload (s : State) (j : Nat) :
    Memory.read (extractPayload s).payload j
      = if j < extractLength s then Memory.read s.rxb (hdrLen + j) else Memory.read s.payload j := by
  rw [extractPayload_payload, read_writeBytes, length_keptBytes]
  by_cases kept : j < extractLength s
  · rw [if_pos (by omega), if_pos kept, Nat.sub_zero, getD_keptBytes kept]
  · rw [if_neg (by omega), if_neg kept]

/-- The payload of a full response is its bytes from the third on. -/
theorem read_payload_storeResponse (hb : b.length = rxLen) (j : Nat) :
    Memory.read (extractPayload (storeResponse b s)).payload j
      = if j < min s.elen.toNat payloadMax then b.getD (hdrLen + j) 0x00 else Memory.read s.payload j := by
  have sameLength : extractLength (storeResponse b s) = min s.elen.toNat payloadMax := rfl
  rw [read_extractPayload_payload, sameLength]
  by_cases kept : j < min s.elen.toNat payloadMax
  · have inResponse : hdrLen + j < b.length :=
      hb ▸ Nat.add_lt_add_left (kept.trans_le (Nat.min_le_right _ _)) hdrLen
    rw [if_pos kept, if_pos kept, read_storeResponse_of_lt inResponse]
  · rw [if_neg kept, if_neg kept, storeResponse_payload]

/-- Settles O25: PLEN holds the extraction length without loss, and PAYLOAD was cleared at issue. -/
theorem goodEchoExtractsPayload : Obligations.GoodEchoExtractsPayload := by
  intro s b rx hb command register
  have payload := read_payload_storeResponse (s := s) hb
  have plen : (BitVec.ofNat 6 (extractLength s)).toNat = extractLength s :=
    Nat.mod_eq_of_lt ((extractLength_le s).trans_lt (by decide))
  refine ⟨extractPayload (storeResponse b s), (storeResponse b s).rxb, (extractPayload (storeResponse b s)).payload,
    BitVec.ofNat 6 (extractLength s), channelAtEcho (storeResponse b s),
    transportAnswer_goodEcho rx hb command register, ?_, plen, fun j hj => read_storeResponse_of_lt (hb ▸ hj), payload,
    fun good => ⟨good.errNone.mpr (by simp [rx]), fun j hj => ?_⟩⟩
  · rw [← rxcnt_full hb]
    rfl
  · rw [payload, if_neg hj.not_gt, good.payload_nil (by simp [rx]), read_nil]

/-! ### Refused answers -/

theorem admissible_write_iff : admissible .write a = true ↔ a = .fail ∨ ∃ n, n ≤ txLen ∧ a = .accepted n := by
  cases a <;> simp [admissible]

theorem admissible_read_iff :
    admissible .read a = true ↔ a = .fail ∨ ∃ b : List Byte, b.length ≤ rxLen ∧ a = .data b := by
  cases a <;> simp [admissible]

theorem writeAnswer_refused_iff : writeAnswer a s = .refused (.impossibleAnswer a) ↔ ¬ admissible .write a = true := by
  cases a with
  | accepted n =>
    simp only [writeAnswer, admissible, decide_eq_true_eq]
    split_ifs with full short
    · exact ⟨nofun, fun h => absurd full.le h⟩
    · exact ⟨nofun, fun h => absurd short.le h⟩
    · exact ⟨fun _ => by omega, fun _ => rfl⟩
  | data b => exact ⟨fun _ => nofun, fun _ => rfl⟩
  | fail => exact ⟨nofun, fun h => absurd rfl h⟩

theorem readAnswer_refused_iff : readAnswer a s = .refused (.impossibleAnswer a) ↔ ¬ admissible .read a = true := by
  cases a with
  | accepted n => exact ⟨fun _ => nofun, fun _ => rfl⟩
  | data b =>
    simp only [readAnswer, admissible, decide_eq_true_eq]
    split_ifs with full short
    · exact ⟨nofun, fun h => absurd full.le h⟩
    · exact ⟨nofun, fun h => absurd short.le h⟩
    · exact ⟨fun _ => by omega, fun _ => rfl⟩
  | fail => exact ⟨nofun, fun h => absurd rfl h⟩

theorem transportAnswer_notPending (a : Answer) (h : s.phase = .idle ∨ s.phase = .fault) :
    transportAnswer a s = .refused (.impossibleAnswer a) := by
  rcases h with h | h <;> simp only [transportAnswer, h]

/-- Settles O26: TX refuses what no write request admits, RX what no read request admits, and the other two phases have no
request pending. -/
theorem impossibleAnswersRefused : Obligations.ImpossibleAnswersRefused := by
  intro s a
  cases phase : s.phase with
  | idle => simp [transportAnswer_notPending a (.inl phase)]
  | tx => simp [transportAnswer_tx a phase, writeAnswer_refused_iff, admissible_write_iff]
  | rx => simp [transportAnswer_rx a phase, readAnswer_refused_iff, admissible_read_iff]
  | fault => simp [transportAnswer_notPending a (.inr phase)]

end Sys2Proof.Machine
end

section
/-! SUPPORT. A block that waits for the Transport: what the host does to it meanwhile, and for how long (R125). -/

namespace Sys2Proof.Machine

variable {s t : State} {k : Nat}

/-! ### The inputs -/

theorem inputs_hostWait (s : State) : (hostWait s).inputs = s.inputs := by
  rw [hostWait_eq]
  split <;> rfl

theorem inputs_hostCheck (s : State) : (hostCheck s).inputs = s.inputs := by
  rw [hostCheck_eq]
  split <;> rfl

theorem inputs_windowWrite (off : Nat) (v : Word) (s : State) : (windowWrite off v s).inputs = s.inputs := by
  rcases windowWrite_cases off v s with e | e | e | e <;> rw [e] <;> rfl

theorem inputs_transactOp (h : transactOp s = .next t) : t.inputs = s.inputs := by
  rcases transactOp_next h with ⟨-, rfl⟩ | ⟨-, rfl⟩ <;> rfl

theorem inputs_runCommand {d : Descriptor} (h : runCommand d s = .next t) : t.inputs = s.inputs := by
  obtain ⟨u, hu, rfl⟩ := runCommand_next h
  exact (inputs_transactOp hu : u.inputs = (commandSetup d s).inputs)

theorem inputs_exec {i : Instr} (h : exec i s = .next t) : t.inputs = s.inputs := by
  rcases exec_next h with rfl | ⟨v, rfl⟩ | ⟨v, rfl⟩ | ⟨v, rfl⟩ | h | ⟨d, h⟩
  · rfl
  · rfl
  · rfl
  · rfl
  · exact inputs_transactOp h
  · exact inputs_runCommand h

theorem inputs_hostAct {a : HostAction} (h : hostAct a s = .next t) : t.inputs = s.inputs := by
  rcases hostAct_next h with ⟨off, rfl⟩ | ⟨off, v, rfl⟩ | ⟨i, h⟩ | rfl | rfl | ⟨d, h⟩ | ⟨p, r, rfl⟩
  · rfl
  · exact inputs_windowWrite off v _
  · exact inputs_exec h
  · exact inputs_hostWait _
  · exact inputs_hostCheck _
  · exact inputs_runCommand h
  · rfl

/-- No action of the host writes the inputs to come (log entry 1). -/
theorem inputs_hostStep (h : hostStep s = .next t) : t.inputs = s.inputs := by
  rcases hostStep_next h with ⟨-, rfl⟩ | ⟨a, rest, -, h⟩
  · rfl
  · exact (inputs_hostAct h : t.inputs = (setProgram rest s).inputs)

/-! ### A silent Transport -/

/-- The block waits for an answer of the Transport. -/
def Busy (s : State) : Prop := s.phase = .tx ∨ s.phase = .rx

theorem Busy.of_transaction (e : transaction t = transaction s) (h : Busy s) : Busy t := by
  rwa [Busy, phase_of_transaction e]

/-- The host moves the transaction by an issue alone, and a busy block issues nothing (R112). -/
theorem hostMove_of_busy (busy : Busy s) (h : HostMove s t) : transaction t = transaction s := by
  rcases h with keeps | ⟨u, idle, hu, -⟩
  · exact keeps
  · have idle : s.phase = .idle := (phase_of_transaction hu).symm.trans idle
    rcases busy with tx | rx
    · rw [tx] at idle; cases idle
    · rw [rx] at idle; cases idle

theorem neverAnswers_tail {i : Input} {rest : List Input} (h : neverAnswers (i :: rest)) : neverAnswers rest :=
  fun j hj => h j (List.mem_cons_of_mem i hj)

/-- While the Transport is silent, a step leaves a busy block's transaction alone, and the Transport silent. -/
theorem step_of_silent (busy : Busy s) (silent : neverAnswers s.inputs) (h : step s = .next t) :
    transaction t = transaction s ∧ neverAnswers t.inputs := by
  rcases step_next h with ⟨-, h⟩ | ⟨rest, hi, h⟩ | ⟨a, rest, hi, -⟩ | ⟨a, rest, hi, h⟩ | ⟨rest, hi, -⟩
  · exact ⟨hostMove_of_busy busy (hostStep_hostMove h), inputs_hostStep h ▸ silent⟩
  · have move : HostMove s t := (hostStep_hostMove h : HostMove (setInputs rest s) t)
    rw [inputs_hostStep h]
    exact ⟨hostMove_of_busy busy move, neverAnswers_tail (i := .host) (hi ▸ silent)⟩
  · obtain ⟨-, noAnswer⟩ := silent (.answer a) (by simp [hi])
    exact absurd rfl (noAnswer a)
  · obtain ⟨rs, -, rfl⟩ := lateAnswer_next h
    exact ⟨rfl, neverAnswers_tail (i := .lateAnswer a) (hi ▸ silent)⟩
  · obtain ⟨noReset, -⟩ := silent .reset (by simp [hi])
    exact absurd rfl noReset

theorem run_of_silent (busy : Busy s) (silent : neverAnswers s.inputs)
    (h : Host.Core.run Sys2Proof.core k s = .next t) : transaction t = transaction s := by
  induction k generalizing s with
  | zero =>
    obtain rfl := Host.Outcome.next.inj h
    rfl
  | succ k ih =>
    obtain ⟨u, hstep, hrun⟩ := run_succ_next h
    obtain ⟨keeps, silent'⟩ := step_of_silent busy silent hstep
    exact (ih (busy.of_transaction keeps) silent' hrun).trans keeps

/-! ### A waiting host -/

/-- A step that answers the state it started from can be repeated for ever (R12; log entry 8). -/
theorem run_of_step_self (h : step s = .next s) (k : Nat) : Host.Core.run Sys2Proof.core k s = .next s := by
  induction k with
  | zero => exact run_zero s
  | succ k ih => rw [run_succ h, ih]

theorem step_wait_of_busy {rest : List HostAction} (busy : Busy s) (turn : s.inputs = [])
    (hprog : s.program = .wait :: rest) : step s = .next s := by
  have notDone : ¬ (s.phase = .idle ∨ s.phase = .fault) := by
    rcases busy with tx | rx
    · simp [tx]
    · simp [rx]
  rw [step_of_hostTurn (hostTurn_of_noInputs turn), (waitAndCheckReadStatus s rest).1 hprog, if_neg notDone]

/-- Settles O59: phase, buffers, ELEN and the reports sent are of the transaction, which a silent Transport leaves as it is. -/
theorem silentTransportHangs : Obligations.SilentTransportHangs := by
  refine ⟨fun k s t busy silent h => ?_, fun k s rest busy turn hprog =>
    run_of_step_self (step_wait_of_busy busy turn hprog) k⟩
  have keeps : transaction t = transaction s := run_of_silent busy silent h
  exact ⟨phase_of_transaction keeps, txb_of_transaction keeps, (congrArg State.elen keeps :),
    (congrArg State.rxb keeps :), (congrArg State.payload keeps :), sent_of_transaction keeps⟩

end Sys2Proof.Machine
end

section
/-! SUPPORT. A whole transaction of the host (R126): `op TRANSACT` in IDLE and the Transport's answers after it. -/

namespace Sys2Proof.Machine

open Sys2Proof.Config

variable {s : State} {rest : List HostAction} {more : List Input} {a : Answer}

theorem step_of_answer (h : s.inputs = .answer a :: more) : step s = transportAnswer a (setInputs more s) := by
  simp only [step, agentStep, h, inputStep]

theorem issueReport_setInputs (i : List Input) (s : State) :
    issueReport (setInputs i s) = setInputs i (issueReport s) := by
  have channel : channelAtIssue (setInputs i s) = channelAtIssue s := rfl
  simp only [issueReport, channel]
  simp only [setInputs]

/-- The state after the host's `op TRANSACT`, with the rest of its program and the given inputs to come. -/
def issuedState (rest : List HostAction) (more : List Input) (s : State) : State :=
  setProgram rest (setInputs more (issueReport s))

theorem setInputs_issuedState (i j : List Input) (s : State) :
    setInputs i (issuedState rest j s) = issuedState rest i s := by
  simp only [issuedState, setInputs, setProgram]

@[simp] theorem issuedState_phase (rest : List HostAction) (more : List Input) (s : State) :
    (issuedState rest more s).phase = .tx := by simp [issuedState]

@[simp] theorem issuedState_inputs (rest : List HostAction) (more : List Input) (s : State) :
    (issuedState rest more s).inputs = more := by simp [issuedState]

@[simp] theorem issuedState_program (rest : List HostAction) (more : List Input) (s : State) :
    (issuedState rest more s).program = rest := by simp [issuedState]

@[simp] theorem issuedState_pvalid (rest : List HostAction) (more : List Input) (s : State) :
    (issuedState rest more s).pvalid = false := by simp [issuedState]

@[simp] theorem issuedState_elen (rest : List HostAction) (more : List Input) (s : State) :
    (issuedState rest more s).elen = s.len := by simp [issuedState]

@[simp] theorem issuedState_payload (rest : List HostAction) (more : List Input) (s : State) :
    (issuedState rest more s).payload = [] := by simp [issuedState]

/-- TXB[1] and TXB[2], which the echo is compared with, are the host's CMD and REG. -/
theorem header_issuedState (rest : List HostAction) (more : List Input) (s : State) :
    Memory.read (issuedState rest more s).txb 1 = s.cmd ∧ Memory.read (issuedState rest more s).txb 2 = s.reg := by
  rw [issuedState, setProgram_txb, setInputs_txb, read_issueReport_txb, read_issueReport_txb]
  exact ⟨rfl, rfl⟩

theorem step_issue (idle : s.phase = .idle) (hprog : s.program = op .transact :: rest)
    (turn : s.inputs = .host :: more) : step s = .next (issuedState rest more s) := by
  have hostNext : hostTurn s = some (setInputs more s) := by simp only [hostTurn, turn]
  calc step s
      = hostWrite .word offCtrl (opWord .transact) (setProgram rest (setInputs more s)) :=
        step_of_hostAction hostNext hprog
    _ = exec .transact (setProgram rest (setInputs more s)) := runsOnOp_of_decodeOp (n := 0x1) rfl _ _ rfl
    _ = .next (issueReport (setProgram rest (setInputs more s))) := (exec_transact _).trans (transactOp_idle idle)
    _ = .next (issuedState rest more s) := by rw [issueReport_setProgram, issueReport_setInputs, issuedState]

theorem setInputs_acceptReport (i : List Input) (s : State) :
    setInputs i (acceptReport s) = acceptReport (setInputs i s) := rfl

/-- The first answer finds the block waiting for the write. -/
theorem run_issue_answer (idle : s.phase = .idle) (hprog : s.program = op .transact :: rest)
    (turn : s.inputs = .host :: .answer a :: more) :
    Host.Core.run Sys2Proof.core 2 s = transportAnswer a (issuedState rest more s) := by
  rw [run_succ (step_issue idle hprog turn), run_one, step_of_answer (issuedState_inputs _ _ _), setInputs_issuedState]

/-- After a full write, the second answer finds it waiting for the read. -/
theorem run_issue_fullWrite_answer (idle : s.phase = .idle) (hprog : s.program = op .transact :: rest)
    (turn : s.inputs = .host :: .answer (.accepted txLen) :: .answer a :: more) :
    Host.Core.run Sys2Proof.core 3 s = transportAnswer a (acceptReport (issuedState rest more s)) := by
  have full : step (issuedState rest (.answer (.accepted txLen) :: .answer a :: more) s) =
      .next (acceptReport (issuedState rest (.answer a :: more) s)) := by
    rw [step_of_answer (issuedState_inputs _ _ _), setInputs_issuedState,
      transportAnswer_fullWrite (issuedState_phase _ _ _)]
  have turn' : (acceptReport (issuedState rest (.answer a :: more) s)).inputs = .answer a :: more := by
    rw [acceptReport_inputs, issuedState_inputs]
  rw [run_succ (step_issue idle hprog turn), run_succ full, run_one, step_of_answer turn', setInputs_acceptReport,
    setInputs_issuedState]

/-- A write answer that is not full is a short or a failed write (R115, R116). -/
theorem transportAnswer_notFullWrite (tx : s.phase = .tx) (admits : admissible .write a = true)
    (notFull : a ≠ .accepted txLen) :
    ∃ t, transportAnswer a s = .next t ∧ t.phase = .fault ∧ t.err = 2 ∧ t.pvalid = s.pvalid := by
  rcases admissible_write_iff.mp admits with rfl | ⟨n, hn, rfl⟩
  · exact ⟨_, transportAnswer_failedWrite tx, rfl, rfl, rfl⟩
  · have short : n < txLen := hn.lt_of_ne fun e => notFull (congrArg Answer.accepted e)
    exact ⟨_, transportAnswer_shortWrite tx short, rfl, rfl, rfl⟩

/-- A read answer that is not full is a short or a failed read (R117, R118). -/
theorem transportAnswer_notFullRead (rx : s.phase = .rx) (admits : admissible .read a = true)
    (notFull : ∀ b : List Byte, b.length = rxLen → a ≠ .data b) :
    ∃ t, transportAnswer a s = .next t ∧ t.phase = .fault ∧ t.err = 3 ∧ t.pvalid = s.pvalid := by
  rcases admissible_read_iff.mp admits with rfl | ⟨b, hb, rfl⟩
  · exact ⟨_, transportAnswer_failedRead rx, rfl, rfl, rfl⟩
  · have short : b.length < rxLen := hb.lt_of_ne fun e => notFull b e rfl
    exact ⟨_, transportAnswer_shortRead rx short, rfl, rfl, rfl⟩

/-- The two ends of a full read (R120, R121). -/
theorem transportAnswer_fullRead_ends {b : List Byte} (rx : s.phase = .rx) (hb : b.length = rxLen) :
    ∃ t, transportAnswer (.data b) s = .next t ∧ t.program = s.program ∧ t.inputs = s.inputs ∧
      (b.getD 0 0x00 = Memory.read s.txb 1 ∧ b.getD 1 0x00 = Memory.read s.txb 2 →
        t.phase = .idle ∧ t.pvalid = true ∧
        ∀ j, j < min s.elen.toNat payloadMax → Memory.read t.payload j = b.getD (hdrLen + j) 0x00) ∧
      (¬ (b.getD 0 0x00 = Memory.read s.txb 1 ∧ b.getD 1 0x00 = Memory.read s.txb 2) →
        t.phase = .fault ∧ t.err = 4 ∧ t.pvalid = s.pvalid ∧ t.payload = s.payload) := by
  by_cases echo : b.getD 0 0x00 = Memory.read s.txb 1 ∧ b.getD 1 0x00 = Memory.read s.txb 2
  · refine ⟨_, transportAnswer_goodEcho rx hb echo.1 echo.2, rfl, rfl, fun _ => ⟨rfl, rfl, fun j hj => ?_⟩,
      fun wrong => absurd echo wrong⟩
    rw [read_payload_storeResponse hb, if_pos hj]
  · exact ⟨_, transportAnswer_wrongEcho rx hb (not_and_or.mp echo), rfl, rfl, fun good => absurd good echo,
      fun _ => ⟨rfl, rfl, rfl, rfl⟩⟩

/-- Settles O60: issue clears PVALID and PAYLOAD, so what the one or two answers leave of them is all there is. -/
theorem transactionContract : Obligations.TransactionContract := by
  refine fun s rest more idle hprog => ⟨fun b hb turn => ?_, fun a admits notFull turn => ?_, fun a admits notFull turn => ?_⟩
  · obtain ⟨command, register⟩ := header_issuedState rest more s
    obtain ⟨t, answer, program, inputs, good, wrong⟩ :=
      transportAnswer_fullRead_ends (acceptReport_phase (issuedState rest more s)) hb
    simp only [acceptReport_program, acceptReport_inputs, acceptReport_txb, acceptReport_elen, acceptReport_pvalid,
      acceptReport_payload, issuedState_program, issuedState_inputs, issuedState_elen, issuedState_pvalid,
      issuedState_payload, command, register] at program inputs good wrong
    refine ⟨t, (run_issue_fullWrite_answer idle hprog turn).trans answer, program, inputs, good, fun notEcho => ?_⟩
    obtain ⟨fault, err, invalid, empty⟩ := wrong notEcho
    exact ⟨fault, err, invalid, allZero_of_nil empty⟩
  · rw [run_issue_answer idle hprog turn, ← issuedState_pvalid rest more s]
    exact transportAnswer_notFullWrite (issuedState_phase _ _ _) admits notFull
  · rw [run_issue_fullWrite_answer idle hprog turn, ← issuedState_pvalid rest more s]
    exact transportAnswer_notFullRead (acceptReport_phase _) admits notFull

end Sys2Proof.Machine
end

section
/-! SUPPORT. NOP, the payload loaders and the numeric decoder (R141 to R143, R147, R148, R151): each writes at most one
result register, in every phase. -/

namespace Sys2Proof.Machine

variable {s t : State}

/-! ### One equation per operation -/

theorem exec_nop (s : State) : exec .nop s = .next s := rfl

theorem exec_loadRaw16 (s : State) : exec .loadRaw16 s = .next (writeRaw (payloadRaw16 s) s) := rfl

theorem exec_loadRaw32 (s : State) : exec .loadRaw32 s = .next (writeRaw (payloadRaw32 s) s) := rfl

theorem exec_decLf16 (s : State) : exec .decLf16 s = .next (writeFres (lf16Pattern (s.raw.extractLsb' 0 16)) s) := rfl

theorem exec_decU32 (s : State) : exec .decU32 s = .next (writeUres s.raw s) := rfl

/-! ### The values the loaders assemble -/

theorem toNat_payloadRaw16 (s : State) :
    (payloadRaw16 s).toNat = (Memory.read s.payload 0).toNat + 2 ^ 8 * (Memory.read s.payload 1).toNat :=
  toNat_wordOfBytes _ _ 0x00 0x00

theorem toNat_payloadRaw32 (s : State) :
    (payloadRaw32 s).toNat = (Memory.read s.payload 0).toNat + 2 ^ 8 * (Memory.read s.payload 1).toNat
      + 2 ^ 16 * (Memory.read s.payload 2).toNat + 2 ^ 24 * (Memory.read s.payload 3).toNat :=
  toNat_wordOfBytes _ _ _ _

theorem payloadRaw16_of_nil (empty : s.payload = []) : payloadRaw16 s = 0 := by
  simp only [payloadRaw16, payloadByte, empty, read_nil]
  rfl

theorem payloadRaw32_of_nil (empty : s.payload = []) : payloadRaw32 s = 0 := by
  simp only [payloadRaw32, payloadByte, empty, read_nil]
  rfl

/-- Bytes of PAYLOAD from PLEN on are 0x00 (R33): PLEN is the extraction length of a valid PAYLOAD, and any other PAYLOAD is
empty. -/
theorem GoodState.read_payload_pastPlen (h : GoodState s) {j : Nat} (hj : s.plen.toNat ≤ j) :
    Memory.read s.payload j = 0x00 := by
  cases valid : s.pvalid with
  | true =>
    obtain ⟨plen, payload⟩ := h.validPayload valid
    rw [payload, if_neg (by omega)]
  | false =>
    obtain ⟨empty, -⟩ := h.invalidPayload valid
    rw [empty, read_nil]

/-! ### The operations' statements -/

/-- Settles O6. -/
theorem nopChangesNothing : Obligations.NopChangesNothing :=
  ⟨runsOnOp_of_decodeOp rfl, exec_nop⟩

/-- Settles O12. -/
theorem decU32PassesThrough : Obligations.DecU32PassesThrough :=
  ⟨runsOnOp_of_decodeOp rfl, exec_decU32⟩

/-- Settles O13. -/
theorem decLf16WritesPattern : Obligations.DecLf16WritesPattern :=
  ⟨runsOnOp_of_decodeOp rfl, exec_decLf16⟩

/-- Settles O10. -/
theorem loadRaw16Loads : Obligations.LoadRaw16Loads :=
  ⟨runsOnOp_of_decodeOp rfl, fun s =>
    ⟨payloadRaw16 s, exec_loadRaw16 s, toNat_payloadRaw16 s, fun good _ => good.read_payload_pastPlen⟩⟩

/-- Settles O11. -/
theorem loadRaw32Loads : Obligations.LoadRaw32Loads :=
  ⟨runsOnOp_of_decodeOp rfl, fun s =>
    ⟨payloadRaw32 s, exec_loadRaw32 s, toNat_payloadRaw32 s, fun good _ => good.read_payload_pastPlen⟩⟩

/-! ### The decoder and the transaction -/

theorem err_of_transaction (h : transaction t = transaction s) : t.err = s.err :=
  (congrArg State.err h :)

theorem rxb_of_transaction (h : transaction t = transaction s) : t.rxb = s.rxb :=
  (congrArg State.rxb h :)

theorem payload_of_transaction (h : transaction t = transaction s) : t.payload = s.payload :=
  (congrArg State.payload h :)

/-- The pending request is implied by PHASE (R53). -/
theorem pendingRequest_of_transaction (h : transaction t = transaction s) : pendingRequest t = pendingRequest s := by
  rw [pendingRequest, phase_of_transaction h]
  rfl

/-- The decoder's operations complete in every phase and write no part of the transaction. -/
theorem exec_decoder_transaction {i : Instr} (hi : i ∈ [Instr.nop, .loadRaw16, .loadRaw32, .decLf16, .decU32]) (s : State) :
    ∃ t, exec i s = .next t ∧ transaction t = transaction s := by
  simp only [List.mem_cons, List.not_mem_nil, or_false] at hi
  rcases hi with rfl | rfl | rfl | rfl | rfl
  · exact ⟨_, exec_nop s, rfl⟩
  · exact ⟨_, exec_loadRaw16 s, rfl⟩
  · exact ⟨_, exec_loadRaw32 s, rfl⟩
  · exact ⟨_, exec_decLf16 s, rfl⟩
  · exact ⟨_, exec_decU32 s, rfl⟩

theorem raw_load_of_nil {i : Instr} (load : i = .loadRaw16 ∨ i = .loadRaw32) (empty : s.payload = [])
    (h : exec i s = .next t) : t.raw = 0 := by
  rcases load with rfl | rfl
  · obtain rfl := Host.Outcome.next.inj ((exec_loadRaw16 s).symm.trans h)
    exact payloadRaw16_of_nil empty
  · obtain rfl := Host.Outcome.next.inj ((exec_loadRaw32 s).symm.trans h)
    exact payloadRaw32_of_nil empty

/-- Settles O18: what R151 lists is part of the transaction, and out of IDLE the invariant has PAYLOAD empty. -/
theorem decoderLeavesTransaction : Obligations.DecoderLeavesTransaction := by
  intro s i hi
  obtain ⟨t, ht, same⟩ := exec_decoder_transaction hi s
  exact ⟨t, ht, phase_of_transaction same, err_of_transaction same, txb_of_transaction same, rxb_of_transaction same,
    payload_of_transaction same, pendingRequest_of_transaction same, sent_of_transaction same,
    fun good notIdle load => raw_load_of_nil load (good.payload_nil notIdle) ht⟩

end Sys2Proof.Machine
end

section
/-! SUPPORT. The linear-float16 word (R144, R145, R150): its two fields, their ranges, and the value they give. -/

namespace Sys2Proof.Machine

variable {v p : Int}

/-! ### The fields -/

theorem lf16Exponent_range (w : Half) : -16 ≤ lf16Exponent w ∧ lf16Exponent w ≤ 15 :=
  ⟨(w.extractLsb' 11 5).le_toInt, Int.le_of_lt_add_one (w.extractLsb' 11 5).toInt_lt⟩

theorem lf16Mantissa_range (w : Half) : -1024 ≤ lf16Mantissa w ∧ lf16Mantissa w ≤ 1023 :=
  ⟨(w.extractLsb' 0 11).le_toInt, Int.le_of_lt_add_one (w.extractLsb' 0 11).toInt_lt⟩

theorem msb_exponentField (w : Half) : (w.extractLsb' 11 5).msb = w.msb := by
  simp [BitVec.msb]

theorem msb_mantissaField (w : Half) : (w.extractLsb' 0 11).msb = w.getLsbD 10 := by
  simp [BitVec.msb_extractLsb', BitVec.getMsbD_eq_getLsbD]

/-- Below bit 5 the shift gives the field, from there on the sign. -/
theorem sshiftRight_eq_signExtend_exponent (w : Half) :
    w.sshiftRight 11 = (w.extractLsb' 11 5).signExtend 16 := by
  ext i hi
  rw [BitVec.getElem_sshiftRight, BitVec.getElem_signExtend, msb_exponentField]
  by_cases field : i < 5
  · rw [dif_pos (by omega), dif_pos field, BitVec.getElem_extractLsb', BitVec.getLsbD_eq_getElem]
  · rw [dif_neg (by omega), dif_neg field]

/-- Below bit 11 the two shifts give the field, from there on its sign, which the left shift has put on top. -/
theorem shifts_eq_signExtend_mantissa (w : Half) :
    (w.setWidth 32 <<< 21).sshiftRight 21 = (w.extractLsb' 0 11).signExtend 32 := by
  have sign : (w.setWidth 32 <<< 21).msb = w.getLsbD 10 := by simp [BitVec.msb_eq_getLsbD_last]
  ext i hi
  rw [BitVec.getElem_sshiftRight, BitVec.getElem_signExtend, msb_mantissaField, sign]
  by_cases field : i < 11
  · rw [dif_pos (by omega), dif_pos field]
    simp
  · rw [dif_neg (by omega), dif_neg field]

/-- Settles O14: both shifts sign-extend the field, which keeps its value. -/
theorem lf16FieldsAreTheShifts : Obligations.Lf16FieldsAreTheShifts := by
  intro w
  have exponent : lf16Exponent w = (w.sshiftRight 11).toInt := by
    rw [sshiftRight_eq_signExtend_exponent, BitVec.toInt_signExtend_of_le (by decide), lf16Exponent]
  have mantissa : lf16Mantissa w = ((w.setWidth 32 <<< 21).sshiftRight 21).toInt := by
    rw [shifts_eq_signExtend_mantissa, BitVec.toInt_signExtend_of_le (by decide), lf16Mantissa]
  obtain ⟨exponentLow, exponentHigh⟩ := lf16Exponent_range w
  obtain ⟨mantissaLow, mantissaHigh⟩ := lf16Mantissa_range w
  exact ⟨rfl, rfl, exponent, mantissa, exponentLow, exponentHigh, mantissaLow, mantissaHigh⟩

/-! ### The value -/

theorem lf16Mantissa_neg_iff (w : Half) : lf16Mantissa w < 0 ↔ w.getLsbD 10 = true := by
  rw [← msb_mantissaField, BitVec.msb_eq_toInt, decide_eq_true_iff, lf16Mantissa]

theorem lf16Mantissa_eq_zero_iff (w : Half) : lf16Mantissa w = 0 ↔ w.extractLsb' 0 11 = 0 :=
  BitVec.toInt_inj (y := 0)

/-- The power of two of an exponent is positive, so the value has the mantissa's sign (R150 (a)). -/
theorem lf16Value_neg_iff (w : Half) : lf16Value w < 0 ↔ lf16Mantissa w < 0 := by
  have power : (0 : ℚ) < 2 ^ lf16Exponent w := zpow_pos two_pos _
  rw [lf16Value, ← neg_pos, ← neg_mul, mul_pos_iff_of_pos_right power, neg_pos, Int.cast_lt_zero]

theorem lf16Value_eq_zero_iff (w : Half) : lf16Value w = 0 ↔ lf16Mantissa w = 0 := by
  rw [lf16Value, mul_eq_zero_iff_right (zpow_pos two_pos _).ne', Int.cast_eq_zero]

/-! ### Encoding -/

/-- A mantissa and an exponent encode as their two's complement fields, whatever their size (R150 (c)). -/
theorem lf16Encode_eq_append (v p : Int) : lf16Encode v p = BitVec.ofInt 5 p ++ BitVec.ofInt 11 v := by
  have fields : (p % 32).toNat <<< 11 ||| (v % 2048).toNat = (BitVec.ofInt 5 p ++ BitVec.ofInt 11 v).toNat := by
    rw [BitVec.toNat_append, BitVec.toNat_ofInt, BitVec.toNat_ofInt]
    rfl
  rw [lf16Encode, fields, BitVec.ofNat_toNat, BitVec.setWidth_eq]

theorem lf16Mantissa_lf16Encode (low : -1024 ≤ v) (high : v ≤ 1023) : lf16Mantissa (lf16Encode v p) = v := by
  rw [lf16Mantissa, lf16Encode_eq_append, BitVec.extractLsb'_append_eq_right,
    BitVec.toInt_ofInt_eq_self (by decide) low (Int.lt_add_one_of_le high)]

theorem lf16Exponent_lf16Encode (low : -16 ≤ p) (high : p ≤ 15) : lf16Exponent (lf16Encode v p) = p := by
  rw [lf16Exponent, lf16Encode_eq_append, BitVec.extractLsb'_append_eq_left,
    BitVec.toInt_ofInt_eq_self (by decide) low (Int.lt_add_one_of_le high)]

/-- Settles O17. -/
theorem lf16SignAndRoundTrip : Obligations.Lf16SignAndRoundTrip := by
  refine ⟨fun w => ⟨?_, ?_⟩, fun v p vLow vHigh pLow pHigh => ?_⟩
  · exact (lf16Value_neg_iff w).trans (lf16Mantissa_neg_iff w)
  · exact (lf16Value_eq_zero_iff w).trans (lf16Mantissa_eq_zero_iff w)
  · rw [lf16Value, lf16Mantissa_lf16Encode vLow vHigh, lf16Exponent_lf16Encode pLow pHigh]

end Sys2Proof.Machine
end

section
/-! SUPPORT. The binary64 pattern DEC_LF16 writes (R145, R146): its three fields and its value. -/

namespace Sys2Proof.Machine

variable {v p : Int}

/-! ### The fields of a pattern -/

/-- The exponent field that `binary64` computes: k + p + 1023, with 2^k the leading power of |v|. -/
def biasedExponent (v p : Int) : Nat := (Nat.log2 v.natAbs + p + 1023).toNat

/-- The fraction field that `binary64` computes: what |v| has past its leading power, shifted up to 52 bits. -/
def fraction (v : Int) : Nat := (v.natAbs - 2 ^ Nat.log2 v.natAbs) * 2 ^ (52 - Nat.log2 v.natAbs)

/-- A nonzero value's pattern is its sign, exponent and fraction side by side, where the last two fit their fields. -/
theorem binary64_eq_append (nonzero : v ≠ 0) (exponentFits : biasedExponent v p < 2 ^ 11)
    (fractionFits : fraction v < 2 ^ 52) :
    binary64 v p =
      BitVec.ofBool (decide (v < 0)) ++ BitVec.ofNat 11 (biasedExponent v p) ++ BitVec.ofNat 52 (fraction v) := by
  have fields : (if v < 0 then 1 else 0) <<< 63 ||| biasedExponent v p <<< 52 ||| fraction v =
      (BitVec.ofBool (decide (v < 0)) ++ BitVec.ofNat 11 (biasedExponent v p) ++ BitVec.ofNat 52 (fraction v)).toNat := by
    rw [BitVec.toNat_append, BitVec.toNat_append, BitVec.toNat_ofNat, BitVec.toNat_ofNat, Nat.mod_eq_of_lt exponentFits,
      Nat.mod_eq_of_lt fractionFits, Nat.shiftLeft_or_distrib, ← Nat.shiftLeft_add, BitVec.toNat_ofBool]
    by_cases negative : v < 0 <;> simp [negative]
  rw [binary64, if_neg nonzero]
  exact (congrArg (BitVec.ofNat 64) fields).trans (by rw [BitVec.ofNat_toNat, BitVec.setWidth_eq])

theorem fields_append (sign : Bool) (e : BitVec 11) (f : BitVec 52) :
    ((BitVec.ofBool sign ++ e ++ f : DWord).getLsbD 63 = sign) ∧
    ((BitVec.ofBool sign ++ e ++ f : DWord).extractLsb' 52 11 = e) ∧
    ((BitVec.ofBool sign ++ e ++ f : DWord).extractLsb' 0 52 = f) := by
  simp only [BitVec.extractLsb'_append_eq_ite, BitVec.getLsbD_append]
  simp

/-- |v| is between its leading power of two and the next. -/
theorem log2_natAbs_bounds (nonzero : v ≠ 0) :
    2 ^ Nat.log2 v.natAbs ≤ v.natAbs ∧ v.natAbs < 2 ^ (Nat.log2 v.natAbs + 1) :=
  ⟨Nat.log2_self_le (Int.natAbs_ne_zero.mpr nonzero), Nat.lt_log2_self⟩

theorem log2_mantissa_le {w : Half} (nonzero : lf16Mantissa w ≠ 0) : Nat.log2 (lf16Mantissa w).natAbs ≤ 10 := by
  obtain ⟨low, high⟩ := lf16Mantissa_range w
  exact Nat.lt_succ_iff.mp ((Nat.log2_lt (Int.natAbs_ne_zero.mpr nonzero)).mpr (by omega))

theorem fraction_lt (nonzero : v ≠ 0) (small : Nat.log2 v.natAbs ≤ 52) : fraction v < 2 ^ 52 := by
  obtain ⟨low, high⟩ := log2_natAbs_bounds nonzero
  calc fraction v
      < 2 ^ Nat.log2 v.natAbs * 2 ^ (52 - Nat.log2 v.natAbs) := by
        refine Nat.mul_lt_mul_of_pos_right ?_ (by positivity)
        omega
    _ = 2 ^ 52 := by rw [← Nat.pow_add, Nat.add_sub_cancel' small]

/-- Settles O15: the mantissa is at most 1024 in magnitude, so k is at most 10 and both fields fit. -/
theorem lf16PatternLayout : Obligations.Lf16PatternLayout := by
  refine fun w => ⟨fun zero => if_pos zero, fun nonzero => ?_⟩
  obtain ⟨pLow, pHigh⟩ := lf16Exponent_range w
  obtain ⟨powerLe, ltPower⟩ := log2_natAbs_bounds nonzero
  have small : Nat.log2 (lf16Mantissa w).natAbs ≤ 10 := log2_mantissa_le nonzero
  have exponentFits : biasedExponent (lf16Mantissa w) (lf16Exponent w) < 2 ^ 11 := by unfold biasedExponent; omega
  have fractionFits : fraction (lf16Mantissa w) < 2 ^ 52 := fraction_lt nonzero (by omega)
  obtain ⟨signField, exponentField, fractionField⟩ := fields_append (decide (lf16Mantissa w < 0))
    (BitVec.ofNat 11 (biasedExponent (lf16Mantissa w) (lf16Exponent w))) (BitVec.ofNat 52 (fraction (lf16Mantissa w)))
  refine ⟨Nat.log2 (lf16Mantissa w).natAbs, small, powerLe, ltPower, ?_⟩
  rw [lf16Pattern, binary64_eq_append nonzero exponentFits fractionFits, signField, exponentField, fractionField,
    BitVec.toNat_ofNat, BitVec.toNat_ofNat, Nat.mod_eq_of_lt exponentFits, Nat.mod_eq_of_lt fractionFits]
  refine ⟨rfl, ?_, by omega, by omega, rfl⟩
  unfold biasedExponent
  omega

/-! ### The value of a pattern -/

theorem binary64Value_zero : binary64Value 0x0000000000000000 = 0 := by
  rw [binary64Value]
  exact if_pos (by decide)

/-- A significand 1 + (m - 2^k) / 2^k times 2^k is m. -/
theorem significand_mul_pow {m k : Nat} (powerLe : 2 ^ k ≤ m) (small : k ≤ 52) :
    (1 + (((m - 2 ^ k) * 2 ^ (52 - k) : Nat) : ℚ) / 2 ^ 52) * 2 ^ k = m := by
  have split : (2 : ℚ) ^ 52 = 2 ^ (52 - k) * 2 ^ k := by rw [← pow_add, Nat.sub_add_cancel small]
  rw [split]
  push_cast [powerLe]
  field_simp
  ring

theorem sign_mul_natAbs (v : Int) : (if decide (v < 0) then (-1 : ℚ) else 1) * (v.natAbs : ℚ) = v := by
  by_cases neg : v < 0
  · simp only [neg, decide_true, if_true]
    rw [Nat.cast_natAbs, abs_of_neg neg]
    push_cast
    ring
  · simp only [neg, decide_false]
    rw [Nat.cast_natAbs, abs_of_nonneg (not_lt.mp neg)]
    simp

/-- The pattern of a word has exactly the word's value (R145, R150 (b)). -/
theorem binary64Value_lf16Pattern (w : Half) : binary64Value (lf16Pattern w) = lf16Value w := by
  obtain ⟨ofZero, ofNonzero⟩ := lf16PatternLayout w
  by_cases zero : lf16Mantissa w = 0
  · rw [ofZero zero, binary64Value_zero, (lf16Value_eq_zero_iff w).mpr zero]
  · obtain ⟨k, small, powerLe, -, signField, exponentField, low, -, fractionField⟩ := ofNonzero zero
    have normal : ((lf16Pattern w).extractLsb' 52 11).toNat ≠ 0 := by omega
    have scale : (2 : ℚ) ^ ((k + lf16Exponent w + 1023 : Int) - 1023) = 2 ^ k * 2 ^ lf16Exponent w := by
      rw [add_sub_cancel_right, zpow_add₀ two_ne_zero, zpow_natCast]
    simp only [binary64Value, if_neg (not_and_of_not_left _ normal), signField, exponentField, fractionField, scale]
    rw [lf16Value, ← sign_mul_natAbs (lf16Mantissa w), ← significand_mul_pow powerLe (by omega)]
    ring

/-! ### Its bounds -/

theorem exponent_pow_bounds (w : Half) : (1 : ℚ) / 2 ^ 16 ≤ 2 ^ lf16Exponent w ∧ (2 : ℚ) ^ lf16Exponent w ≤ 2 ^ 15 := by
  obtain ⟨low, high⟩ := lf16Exponent_range w
  have lower : (2 : ℚ) ^ (-16 : Int) ≤ 2 ^ lf16Exponent w := zpow_le_zpow_right₀ one_le_two low
  have upper : (2 : ℚ) ^ lf16Exponent w ≤ 2 ^ (15 : Int) := zpow_le_zpow_right₀ one_le_two high
  exact ⟨by simpa using lower, upper⟩

theorem lf16Value_bounds (w : Half) : -33554432 ≤ lf16Value w ∧ lf16Value w ≤ 33521664 := by
  obtain ⟨low, high⟩ := lf16Mantissa_range w
  obtain ⟨-, powerLe⟩ := exponent_pow_bounds w
  have powerPos : (0 : ℚ) < 2 ^ lf16Exponent w := zpow_pos two_pos _
  have low' : (-1024 : ℚ) ≤ lf16Mantissa w := by exact_mod_cast low
  have high' : (lf16Mantissa w : ℚ) ≤ 1023 := by exact_mod_cast high
  constructor
  · calc (-33554432 : ℚ) = -1024 * 2 ^ 15 := by norm_num
      _ ≤ -1024 * 2 ^ lf16Exponent w := by linarith
      _ ≤ lf16Value w := mul_le_mul_of_nonneg_right low' powerPos.le
  · calc lf16Value w ≤ 1023 * 2 ^ lf16Exponent w := mul_le_mul_of_nonneg_right high' powerPos.le
      _ ≤ 1023 * 2 ^ 15 := by linarith
      _ = 33521664 := by norm_num

theorem le_abs_lf16Value {w : Half} (nonzero : lf16Value w ≠ 0) : (1 : ℚ) / 2 ^ 16 ≤ |lf16Value w| := by
  obtain ⟨leExponent, -⟩ := exponent_pow_bounds w
  have mantissa : (1 : ℚ) ≤ |(lf16Mantissa w : ℚ)| := by
    exact_mod_cast Int.one_le_abs ((lf16Value_eq_zero_iff w).not.mp nonzero)
  calc (1 : ℚ) / 2 ^ 16 ≤ 1 * 2 ^ lf16Exponent w := by linarith
    _ ≤ |(lf16Mantissa w : ℚ)| * 2 ^ lf16Exponent w := mul_le_mul_of_nonneg_right mantissa (zpow_pos two_pos _).le
    _ = |lf16Value w| := by rw [lf16Value, abs_mul, abs_of_pos (zpow_pos (two_pos (α := ℚ)) (lf16Exponent w))]

/-- Settles O16. -/
theorem decLf16IsExact : Obligations.DecLf16IsExact := by
  intro s
  have value : binary64Value (writeFres (lf16Pattern (s.raw.extractLsb' 0 16)) s).fres =
      lf16Value (s.raw.extractLsb' 0 16) := binary64Value_lf16Pattern _
  refine ⟨_, exec_decLf16 s, value, ?_⟩
  rw [value]
  obtain ⟨low, high⟩ := lf16Value_bounds (s.raw.extractLsb' 0 16)
  exact ⟨low, high, le_abs_lf16Value⟩

end Sys2Proof.Machine
end

section
/-! SUPPORT. The wire commands by the table of descriptors (R170 to R188): what each of the sixteen issues in IDLE. -/

namespace Sys2Proof.Machine

variable {s : State}

/-- A command issues what its row of the table says, so a statement about one command names the row and no more. -/
theorem issuesCommand_of_descriptor {i : Instr} {d : Descriptor} (idle : s.phase = .idle)
    (descriptor : descriptorOf s.params i = some d) :
    IssuesCommand i d.command d.register d.subIndex d.len d.kind s := by
  rw [IssuesCommand, exec_of_descriptor descriptor]
  exact issuedFrom_runCommand idle

/-- Settles O37. -/
theorem linearFloatReadsIssue : Obligations.LinearFloatReadsIssue := fun _ idle =>
  ⟨issuesCommand_of_descriptor (d := .readVin) idle rfl, issuesCommand_of_descriptor (d := .readVout) idle rfl,
    issuesCommand_of_descriptor (d := .readIout) idle rfl, issuesCommand_of_descriptor (d := .readTemp1) idle rfl,
    issuesCommand_of_descriptor (d := .readTemp2) idle rfl, issuesCommand_of_descriptor (d := .readFan) idle rfl,
    issuesCommand_of_descriptor (d := .readPout) idle rfl, issuesCommand_of_descriptor (d := .readPtotal) idle rfl⟩

/-- Settles O38. -/
theorem durationReadsIssue : Obligations.DurationReadsIssue := fun _ idle =>
  ⟨issuesCommand_of_descriptor (d := .readPowered) idle rfl, issuesCommand_of_descriptor (d := .readUptime) idle rfl⟩

/-- Settles O39: the length of a string row is the parameter, whatever its value. -/
theorem stringReadsIssue : Obligations.StringReadsIssue := fun s sub idle =>
  ⟨issuesCommand_of_descriptor (d := .readVendor s.params) idle rfl,
    issuesCommand_of_descriptor (d := .readProduct s.params) idle rfl,
    issuesCommand_of_descriptor (d := .readName sub s.params) idle rfl⟩

/-- Settles O40: a select's length is the parameter, whatever its value. -/
theorem channelSelectsIssue : Obligations.ChannelSelectsIssue := fun s idle =>
  ⟨issuesCommand_of_descriptor (d := .selectCh0 s.params) idle rfl,
    issuesCommand_of_descriptor (d := .selectCh1 s.params) idle rfl,
    issuesCommand_of_descriptor (d := .selectCh2 s.params) idle rfl⟩

end Sys2Proof.Machine
end

section
/-! SUPPORT. A wire command from issue to value (R171, R208): the two good answers, then the host's `wait`, `check` and
decode pipeline, each as one run, and what the state at their end holds. -/

namespace Sys2Proof.Machine

open Sys2Proof.Config

variable {s u : State} {d : Descriptor} {b : List Byte} {rest : List HostAction}

/-- Runs compose. -/
theorem run_add {j k : Nat} (h : Host.Core.run Sys2Proof.core j s = .next u) :
    Host.Core.run Sys2Proof.core (j + k) s = Host.Core.run Sys2Proof.core k u := by
  induction j generalizing s with
  | zero =>
    obtain rfl := Host.Outcome.next.inj h
    rw [Nat.zero_add]
  | succ j ih =>
    obtain ⟨v, first, later⟩ := run_succ_next h
    rw [Nat.succ_add, run_succ first, ih later]

/-! ### Issue -/

/-- The state a wire command leaves in IDLE: its report handed over, its procedure the host's next actions. -/
def commandIssued (d : Descriptor) (s : State) : State :=
  issueReport (setProgram (afterIssue d.kind ++ s.program) (commandSetup d s))

theorem exec_command {i : Instr} (descriptor : descriptorOf s.params i = some d) (idle : s.phase = .idle) :
    exec i s = .next (commandIssued d s) := by
  rw [exec_of_descriptor descriptor, runCommand_eq_transactOp, transactOp_idle (by exact idle), commandIssued]

@[simp] theorem commandIssued_phase (d : Descriptor) (s : State) : (commandIssued d s).phase = .tx := rfl

@[simp] theorem commandIssued_payload (d : Descriptor) (s : State) : (commandIssued d s).payload = [] := rfl

@[simp] theorem commandIssued_program (d : Descriptor) (s : State) :
    (commandIssued d s).program = .wait :: .check :: (decodePipeline d.kind ++ s.program) := rfl

@[simp] theorem commandIssued_elen (d : Descriptor) (s : State) : (commandIssued d s).elen = d.len := by
  rw [commandIssued, commandSetup_eq, issueReport_elen, setProgram_len]

@[simp] theorem commandIssued_txb (d : Descriptor) (s : State) :
    (commandIssued d s).txb = Memory.ofBytes (cmdReport d.command d.register d.subIndex) := by
  rw [commandIssued, commandSetup_eq, issueReport_txb, setProgram_cmd, setProgram_reg, setProgram_sub]

@[simp] theorem commandIssued_sent (d : Descriptor) (s : State) :
    (commandIssued d s).sent = s.sent ++ [cmdReport d.command d.register d.subIndex] := by
  rw [commandIssued, commandSetup_eq, issueReport_sent_cmdReport, setProgram_cmd, setProgram_reg, setProgram_sub,
    setProgram_sent]

/-! ### The two good answers -/

/-- The state after a full write and a full response with a good echo, no more inputs to come. -/
def answeredState (b : List Byte) (s : State) : State :=
  extractPayload (storeResponse b (acceptReport (setInputs [] s)))

theorem run_goodAnswers (tx : s.phase = .tx) (turn : s.inputs = [.answer (.accepted txLen), .answer (.data b)])
    (hb : b.length = rxLen) (command : b.getD 0 0x00 = Memory.read s.txb 1)
    (register : b.getD 1 0x00 = Memory.read s.txb 2) :
    Host.Core.run Sys2Proof.core 2 s = .next (answeredState b s) := by
  have write : step s = .next (acceptReport (setInputs [.answer (.data b)] s)) :=
    (step_of_answer turn).trans (transportAnswer_fullWrite tx)
  have read : step (acceptReport (setInputs [.answer (.data b)] s)) = .next (answeredState b s) :=
    (step_of_answer rfl).trans (transportAnswer_goodEcho rfl hb command register)
  exact (run_succ write).trans ((run_one _).trans read)

/-! ### `wait` and `check` -/

theorem run_wait_check (idle : s.phase = .idle) (turn : s.inputs = []) (hprog : s.program = .wait :: .check :: rest) :
    Host.Core.run Sys2Proof.core 2 s = .next (setProgram rest s) := by
  have wait : step s = .next (setProgram (.check :: rest) s) := by
    rw [step_of_hostAction (hostTurn_of_noInputs turn) hprog, hostAct, hostWait_eq, if_pos (.inl idle)]
  have notFault : (setProgram rest s).phase ≠ .fault := by simp [idle]
  have check : step (setProgram (.check :: rest) s) = .next (setProgram rest s) := by
    rw [step_setProgram_cons turn, hostAct, hostCheck_eq, if_neg notFault]
  exact (run_succ wait).trans ((run_one _).trans check)

/-! ### A run of reads -/

/-- The state after the host has read the words at the offsets, in order; reading changes no word (R66). -/
def logReads (offs : List Nat) (s : State) : State :=
  { s with reads := s.reads ++ offs.map fun off => (off, windowRead s off) }

@[simp] theorem logReads_fres (offs : List Nat) (s : State) : (logReads offs s).fres = s.fres := rfl

@[simp] theorem logReads_ures (offs : List Nat) (s : State) : (logReads offs s).ures = s.ures := rfl

theorem logReads_nil (s : State) : logReads [] s = s := by simp [logReads]

theorem windowRead_logRead (o : Nat) (v : Word) (s : State) (off : Nat) :
    windowRead (logRead o v s) off = windowRead s off := rfl

theorem logReads_cons (off : Nat) (offs : List Nat) (s : State) :
    logReads offs (logRead off (windowRead s off) s) = logReads (off :: offs) s := by
  simp [logReads, windowRead_logRead]

theorem run_reads {offs : List Nat} (answered : ∀ off ∈ offs, accessRefusal .word off = none) (turn : s.inputs = []) :
    Host.Core.run Sys2Proof.core offs.length (setProgram (offs.map lw ++ rest) s) =
      .next (setProgram rest (logReads offs s)) := by
  induction offs generalizing s with
  | nil => rw [logReads_nil]; rfl
  | cons off offs ih =>
    obtain ⟨here, later⟩ := List.forall_mem_cons.mp answered
    have read : step (setProgram (lw off :: (offs.map lw ++ rest)) s) =
        .next (setProgram (offs.map lw ++ rest) (logRead off (windowRead s off) s)) :=
      (step_setProgram_cons turn).trans (hostRead_answered here _)
    calc Host.Core.run Sys2Proof.core (offs.length + 1) (setProgram (lw off :: (offs.map lw ++ rest)) s)
        = Host.Core.run Sys2Proof.core offs.length
            (setProgram (offs.map lw ++ rest) (logRead off (windowRead s off) s)) := run_succ read
      _ = .next (setProgram rest (logReads offs (logRead off (windowRead s off) s))) := ih later turn
      _ = .next (setProgram rest (logReads (off :: offs) s)) := by rw [logReads_cons]

/-! ### The decode pipelines -/

/-- The state after the operations of a decode pipeline, before its reads (R171). -/
def decodeResult (k : Option DecodeKind) (s : State) : State :=
  match k with
  | some .linearFloat16 => writeFres (lf16Pattern (payloadByte s 1 ++ payloadByte s 0)) (writeRaw (payloadRaw16 s) s)
  | some .unsigned32 => writeUres (payloadRaw32 s) (writeRaw (payloadRaw32 s) s)
  | some .rawString => s
  | none => s

/-- The offsets a decode pipeline reads (R171, R208). -/
def pipelineReads : Option DecodeKind → List Nat
  | some .linearFloat16 => [offFresLo, offFresHi]
  | some .unsigned32 => [offUres]
  | some .rawString => (List.range 16).map fun k => offPayload + 4 * k
  | none => []

theorem pipelineReads_answered (k : Option DecodeKind) : ∀ off ∈ pipelineReads k, accessRefusal .word off = none := by
  match k with
  | some .linearFloat16 => decide
  | some .unsigned32 => decide
  | some .rawString => decide
  | none => decide

/-- Decoding writes no part of the transaction (R151). -/
theorem transaction_decodeResult (k : Option DecodeKind) (s : State) :
    transaction (decodeResult k s) = transaction s := by
  match k with
  | some .linearFloat16 => rfl
  | some .unsigned32 => rfl
  | some .rawString => rfl
  | none => rfl

/-- Decoding is no move of the host's own: its inputs and what it has read stay. -/
theorem decodeResult_host (k : Option DecodeKind) (s : State) :
    (decodeResult k s).inputs = s.inputs ∧ (decodeResult k s).reads = s.reads := by
  match k with
  | some .linearFloat16 => exact ⟨rfl, rfl⟩
  | some .unsigned32 => exact ⟨rfl, rfl⟩
  | some .rawString => exact ⟨rfl, rfl⟩
  | none => exact ⟨rfl, rfl⟩

theorem step_loadRaw16 (turn : s.inputs = []) :
    step (setProgram (op .loadRaw16 :: rest) s) = .next (setProgram rest (writeRaw (payloadRaw16 s) s)) :=
  (step_op rfl turn).trans (exec_loadRaw16 _)

theorem step_loadRaw32 (turn : s.inputs = []) :
    step (setProgram (op .loadRaw32 :: rest) s) = .next (setProgram rest (writeRaw (payloadRaw32 s) s)) :=
  (step_op rfl turn).trans (exec_loadRaw32 _)

theorem step_decLf16 (turn : s.inputs = []) :
    step (setProgram (op .decLf16 :: rest) s) =
      .next (setProgram rest (writeFres (lf16Pattern (s.raw.extractLsb' 0 16)) s)) :=
  (step_op rfl turn).trans (exec_decLf16 _)

theorem step_decU32 (turn : s.inputs = []) :
    step (setProgram (op .decU32 :: rest) s) = .next (setProgram rest (writeUres s.raw s)) :=
  (step_op rfl turn).trans (exec_decU32 _)

/-- The half word LOAD_RAW16 leaves for DEC_LF16 (R142, R147). -/
theorem lowHalf_payloadRaw16 (s : State) :
    (writeRaw (payloadRaw16 s) s).raw.extractLsb' 0 16 = payloadByte s 1 ++ payloadByte s 0 :=
  lowHalf_wordOfBytes _ _ _ _

theorem run_decodePipeline (k : Option DecodeKind) (turn : s.inputs = []) :
    Host.Core.run Sys2Proof.core (decodePipeline k).length (setProgram (decodePipeline k ++ rest) s) =
      .next (setProgram rest (logReads (pipelineReads k) (decodeResult k s))) := by
  have reads := run_reads (rest := rest) (pipelineReads_answered k) ((decodeResult_host k s).1.trans turn)
  match k with
  | some .linearFloat16 =>
    have decode := step_decLf16 (rest := [offFresLo, offFresHi].map lw ++ rest) (s := writeRaw (payloadRaw16 s) s) turn
    rw [lowHalf_payloadRaw16] at decode
    exact (run_succ (step_loadRaw16 turn)).trans ((run_succ decode).trans reads)
  | some .unsigned32 =>
    have decode := step_decU32 (rest := [offUres].map lw ++ rest) (s := writeRaw (payloadRaw32 s) s) turn
    exact (run_succ (step_loadRaw32 turn)).trans ((run_succ decode).trans reads)
  | some .rawString => exact reads
  | none => exact reads

/-! ### From command to value -/

/-- The state at the end of a wire command whose response is `b`, its pipeline included. -/
def commandDone (d : Descriptor) (b : List Byte) (s : State) : State :=
  setProgram s.program (logReads (pipelineReads d.kind) (decodeResult d.kind (answeredState b (commandIssued d s))))

theorem run_command (turn : s.inputs = [.answer (.accepted txLen), .answer (.data b)]) (hb : b.length = rxLen)
    (command : b.getD 0 0x00 = d.command) (register : b.getD 1 0x00 = d.register) :
    Host.Core.run Sys2Proof.core (2 + (afterIssue d.kind).length) (commandIssued d s) = .next (commandDone d b s) := by
  obtain ⟨-, txb1, txb2, -⟩ := commandIssued_txb d s ▸ holdsReport_ofBytes d.command d.register d.subIndex
  have answers : Host.Core.run Sys2Proof.core 2 (commandIssued d s) = .next (answeredState b (commandIssued d s)) :=
    run_goodAnswers (commandIssued_phase d s) turn hb (command.trans txb1.symm) (register.trans txb2.symm)
  have waited : Host.Core.run Sys2Proof.core 2 (answeredState b (commandIssued d s)) =
      .next (setProgram (decodePipeline d.kind ++ s.program) (answeredState b (commandIssued d s))) :=
    run_wait_check rfl rfl (commandIssued_program d s)
  have length : (afterIssue d.kind).length = 2 + (decodePipeline d.kind).length := by
    rw [afterIssue, List.length_cons, List.length_cons]
    omega
  rw [run_add answers, length, run_add waited, run_decodePipeline d.kind rfl, commandDone]

/-- What the answers left of the transaction is not touched by the host after them. -/
theorem transaction_commandDone (d : Descriptor) (b : List Byte) (s : State) :
    transaction (commandDone d b s) = transaction (answeredState b (commandIssued d s)) :=
  transaction_decodeResult _ _

theorem inputs_commandDone (d : Descriptor) (b : List Byte) (s : State) : (commandDone d b s).inputs = [] :=
  (decodeResult_host d.kind _).1

/-- The words the host has read are those its window still shows. -/
theorem reads_commandDone (d : Descriptor) (b : List Byte) (s : State) :
    (commandDone d b s).reads =
      s.reads ++ (pipelineReads d.kind).map fun off => (off, windowRead (commandDone d b s) off) := by
  have before : (decodeResult d.kind (answeredState b (commandIssued d s))).reads = s.reads := (decodeResult_host _ _).2
  rw [← before]
  rfl

theorem read_payload_answeredState (hb : b.length = rxLen) (j : Nat) :
    Memory.read (answeredState b (commandIssued d s)).payload j =
      if j < min d.len.toNat payloadMax then b.getD (hdrLen + j) 0x00 else 0x00 := by
  rw [answeredState, read_payload_storeResponse hb, acceptReport_elen, setInputs_elen, commandIssued_elen,
    acceptReport_payload, setInputs_payload, commandIssued_payload, read_nil]

theorem fres_commandDone (kind : d.kind = some .linearFloat16) :
    (commandDone d b s).fres =
      lf16Pattern (payloadByte (answeredState b (commandIssued d s)) 1
        ++ payloadByte (answeredState b (commandIssued d s)) 0) := by
  rw [commandDone, kind, setProgram_fres, logReads_fres, decodeResult, writeFres_fres]

theorem ures_commandDone (kind : d.kind = some .unsigned32) :
    (commandDone d b s).ures = payloadRaw32 (answeredState b (commandIssued d s)) := by
  rw [commandDone, kind, setProgram_ures, logReads_ures, decodeResult, writeUres_ures]

/-- A numeric row's length is as many bytes as its pipeline loads (R173 to R184). -/
theorem len_of_kind {p : Params} {i : Instr} (descriptor : descriptorOf p i = some d) :
    (d.kind = some .linearFloat16 → d.len = 2) ∧ (d.kind = some .unsigned32 → d.len = 4) := by
  cases i with
  | nop | transact | decLf16 | decU32 | loadRaw16 | loadRaw32 => cases descriptor
  | readVin | readVout | readIout | readTemp1 | readTemp2 | readFan | readPout | readPtotal =>
    obtain rfl := Option.some.inj descriptor
    exact ⟨fun _ => rfl, nofun⟩
  | readPowered | readUptime =>
    obtain rfl := Option.some.inj descriptor
    exact ⟨nofun, fun _ => rfl⟩
  | readVendor | readProduct | readName | selectCh0 | selectCh1 | selectCh2 =>
    obtain rfl := Option.some.inj descriptor
    exact ⟨nofun, nofun⟩

/-- Settles O44: the run is the good answers, `wait` and `check`, then the pipeline, and a numeric row's length covers the
bytes its pipeline loads. -/
theorem commandYieldsItsValue : Obligations.CommandYieldsItsValue := by
  intro s i d b descriptor idle turn hb command register
  have same := transaction_commandDone d b s
  have payload := read_payload_answeredState (d := d) (s := s) hb
  have reads := reads_commandDone d b s
  obtain ⟨floatLen, wordLen⟩ := len_of_kind descriptor
  refine ⟨commandIssued d s, commandDone d b s, exec_command descriptor idle, run_command turn hb command register,
    phase_of_transaction same, congrArg State.pvalid same, rfl, inputs_commandDone d b s,
    (sent_of_transaction same).trans (commandIssued_sent d s), payload_of_transaction same ▸ payload,
    fun kind => ⟨?_, ?_⟩, fun kind => ⟨?_, ?_⟩, fun kind => ?_, fun kind => ?_⟩
  · rw [fres_commandDone kind, payloadByte, payloadByte, payload, payload, floatLen kind]
    rfl
  · rw [reads, kind]
    rfl
  · rw [ures_commandDone kind, payloadRaw32, payloadByte, payloadByte, payloadByte, payloadByte, payload, payload, payload,
      payload, wordLen kind]
    rfl
  · rw [reads, kind]
    rfl
  · rw [reads, kind]
    rfl
  · rw [reads, kind]
    exact List.append_nil _

end Sys2Proof.Machine
end

section
/-! SUPPORT. A wire command the Transport fails (R115 to R120, R202, R208): an answer leaves the host alone, and the host's
`check` finds the fault the answer raised. -/

namespace Sys2Proof.Machine

open Sys2Proof.Config

variable {s t u : State} {a : Answer} {d : Descriptor} {rest : List HostAction}

/-! ### An answer leaves the host alone -/

/-- The host stands alike in the two states: the program it has left, what it has read, its last call of `read_snapshot` and
the inputs to come. -/
structure SameHost (s t : State) : Prop where
  program : t.program = s.program
  reads : t.reads = s.reads
  run : t.run = s.run
  inputs : t.inputs = s.inputs

theorem sameHost_validate (s : State) : SameHost s (validate s) := by
  rcases validate_cases s with ⟨-, e⟩ | ⟨-, e⟩ <;> rw [e] <;> exact ⟨rfl, rfl, rfl, rfl⟩

theorem sameHost_writeAnswer (h : writeAnswer a s = .next t) : SameHost s t := by
  rcases writeAnswer_next h with ⟨-, rfl⟩ | ⟨n, -, -, rfl⟩ | ⟨-, rfl⟩ <;> exact ⟨rfl, rfl, rfl, rfl⟩

theorem sameHost_readAnswer (h : readAnswer a s = .next t) : SameHost s t := by
  rcases readAnswer_next h with ⟨b, -, -, rfl⟩ | ⟨b, -, -, rfl⟩ | ⟨-, rfl⟩
  · exact { sameHost_validate (storeResponse b s) with }
  · exact ⟨rfl, rfl, rfl, rfl⟩
  · exact ⟨rfl, rfl, rfl, rfl⟩

theorem sameHost_transportAnswer (h : transportAnswer a s = .next t) : SameHost s t := by
  rcases transportAnswer_next h with ⟨-, h⟩ | ⟨-, h⟩
  · exact sameHost_writeAnswer h
  · exact sameHost_readAnswer h

/-! ### The host at its check -/

/-- In FAULT `wait` goes on and `check` stops the host with the error (R92, R202). -/
theorem run_wait_check_fault (fault : s.phase = .fault) (turn : s.inputs = [])
    (hprog : s.program = .wait :: .check :: rest) :
    Host.Core.run Sys2Proof.core 2 s = .next (stopHost s.err (setProgram rest s)) := by
  have wait : step s = .next (setProgram (.check :: rest) s) := by
    rw [step_of_hostAction (hostTurn_of_noInputs turn) hprog, hostAct, hostWait_eq, if_pos (.inr fault)]
  have check : step (setProgram (.check :: rest) s) = .next (stopHost s.err (setProgram rest s)) := by
    rw [step_setProgram_cons turn, hostAct, hostCheck_eq, if_pos (by exact fault), setProgram_err]
  exact (run_succ wait).trans ((run_one _).trans check)

/-- After `k` steps the block is in FAULT and the host stopped with the error, its program dropped and nothing read. -/
def StopsHost (k : Nat) (e : BitVec 4) (s : State) : Prop :=
  ∃ t, Host.Core.run Sys2Proof.core k s = .next t ∧ t.phase = .fault ∧ t.stopped = some e ∧ t.program = [] ∧
    t.reads = s.reads

/-- An answer that raises a fault stops a host that is to wait and check. -/
theorem stopsHost_of_faultAnswer {e : BitVec 4} (turn : s.inputs = [.answer a])
    (hprog : s.program = .wait :: .check :: rest) (answer : transportAnswer a (setInputs [] s) = .next u)
    (fault : u.phase = .fault) (err : u.err = e) : StopsHost 3 e s := by
  obtain ⟨program, reads, -, inputs⟩ := sameHost_transportAnswer answer
  have answered : step s = .next u := (step_of_answer turn).trans answer
  have stopped : Host.Core.run Sys2Proof.core 2 u = .next (stopHost u.err (setProgram rest u)) :=
    run_wait_check_fault fault inputs (program.trans hprog)
  exact ⟨_, (run_succ answered).trans stopped, fault, congrArg some err, rfl, reads⟩

theorem stopsHost_of_notFullWrite (tx : s.phase = .tx) (turn : s.inputs = [.answer a])
    (hprog : s.program = .wait :: .check :: rest) (admits : admissible .write a = true) (notFull : a ≠ .accepted txLen) :
    StopsHost 3 2 s := by
  obtain ⟨u, answer, fault, err, -⟩ := transportAnswer_notFullWrite (s := setInputs [] s) tx admits notFull
  exact stopsHost_of_faultAnswer turn hprog answer fault err

/-- A full write only puts off the end: it does nothing to the host. -/
theorem stopsHost_of_fullWrite {k : Nat} {e : BitVec 4} (tx : s.phase = .tx)
    (turn : s.inputs = [.answer (.accepted txLen), .answer a])
    (stops : StopsHost k e (acceptReport (setInputs [.answer a] s))) : StopsHost (k + 1) e s := by
  obtain ⟨t, later, stopped⟩ := stops
  have write : step s = .next (acceptReport (setInputs [.answer a] s)) :=
    (step_of_answer turn).trans (transportAnswer_fullWrite tx)
  exact ⟨t, (run_succ write).trans later, stopped⟩

theorem stopsHost_of_notFullRead (tx : s.phase = .tx) (turn : s.inputs = [.answer (.accepted txLen), .answer a])
    (hprog : s.program = .wait :: .check :: rest) (admits : admissible .read a = true)
    (notFull : ∀ b : List Byte, b.length = rxLen → a ≠ .data b) : StopsHost 4 3 s := by
  obtain ⟨u, answer, fault, err, -⟩ :=
    transportAnswer_notFullRead (s := acceptReport (setInputs [] s)) rfl admits notFull
  exact stopsHost_of_fullWrite tx turn (stopsHost_of_faultAnswer rfl hprog answer fault err)

theorem stopsHost_of_wrongEcho {b : List Byte} (tx : s.phase = .tx)
    (turn : s.inputs = [.answer (.accepted txLen), .answer (.data b)]) (hprog : s.program = .wait :: .check :: rest)
    (hb : b.length = rxLen)
    (wrong : ¬ (b.getD 0 0x00 = Memory.read s.txb 1 ∧ b.getD 1 0x00 = Memory.read s.txb 2)) : StopsHost 4 4 s := by
  have answer : transportAnswer (.data b) (acceptReport (setInputs [] s)) =
      .next (mismatch (storeResponse b (acceptReport (setInputs [] s)))) :=
    transportAnswer_wrongEcho rfl hb (not_and_or.mp wrong)
  exact stopsHost_of_fullWrite tx turn (stopsHost_of_faultAnswer rfl hprog answer rfl rfl)

/-- Settles O45: the command leaves the host to wait and check, and each of the three ways ends in an answer that raises a
fault, the last two after a full write. -/
theorem failedCommandStopsHost : Obligations.FailedCommandStopsHost := by
  intro s i d descriptor idle
  have issued := exec_command descriptor idle
  have hprog := commandIssued_program d s
  obtain ⟨-, txb1, txb2, -⟩ := commandIssued_txb d s ▸ holdsReport_ofBytes d.command d.register d.subIndex
  refine ⟨fun a admits notFull turn => ?_, fun a admits notFull turn => ?_, fun b hb wrong turn => ?_⟩
  · obtain ⟨t, stops⟩ : StopsHost 3 2 (commandIssued d s) := stopsHost_of_notFullWrite rfl turn hprog admits notFull
    exact ⟨_, t, issued, stops⟩
  · obtain ⟨t, stops⟩ : StopsHost 4 3 (commandIssued d s) := stopsHost_of_notFullRead rfl turn hprog admits notFull
    exact ⟨_, t, issued, stops⟩
  · rw [← txb1, ← txb2] at wrong
    obtain ⟨t, stops⟩ : StopsHost 4 4 (commandIssued d s) := stopsHost_of_wrongEcho rfl turn hprog hb wrong
    exact ⟨_, t, issued, stops⟩

end Sys2Proof.Machine
end

section
/-! SUPPORT. The calls of `read_snapshot` (R200 to R205): what a step can do to the last call, said once. -/

namespace Sys2Proof.Machine

variable {s t u : State} {q r : SnapshotRun}

/-! ### The rows -/

/-- Settles O47: both sides are the same closed table. -/
theorem snapshotTransactionsInOrder : Obligations.SnapshotTransactionsInOrder := rfl

/-- The parameters do not change how many rows there are (R201). -/
theorem length_snapshotRows (p : Params) : (snapshotRows p).length = 23 := rfl

theorem rowGood_iff {w : Triplet} {l : Byte} :
    rowGood w l s = true ↔ s.phase = .idle ∧ s.pvalid = true ∧ framedTriplet s = w ∧ s.elen = l := by
  simp [rowGood, and_assoc]

/-- The bytes of the framed triplet are those of TXB[1..3] (R42, R85). -/
theorem framedTriplet_bytes (s : State) :
    Memory.read s.txb 1 = (framedTriplet s).extractLsb' 0 8 ∧ Memory.read s.txb 2 = (framedTriplet s).extractLsb' 8 8 ∧
    Memory.read s.txb 3 = (framedTriplet s).extractLsb' 16 8 := by
  simp only [framedTriplet, BitVec.extractLsb'_append_eq_ite]
  simp

/-! ### What a step does to a call -/

/-- The step ends the call, with a record only where every row was good and the values read make it up. -/
def EndsCall (s t : State) (q : SnapshotRun) : Prop :=
  ∃ o, t.run = some { q with outcome := o } ∧
    ∀ record, o = .complete record →
      q.rows = (snapshotRows s.params).length ∧ assembleSnapshot (runValues q t) = some record

/-- The step is the host's at the end of a good row, and the row counts. -/
def CountsRow (s t : State) (q : SnapshotRun) : Prop :=
  t.run = some { q with rows := q.rows + 1 } ∧
  ∃ u rest w l, hostTurn s = some u ∧ u.program = .endRow w l :: rest ∧ rowGood w l s = true

/-- The step is the host's, and its action a new call. -/
def StartsCall (s t : State) : Prop :=
  ∃ u rest, hostTurn s = some u ∧ u.program = .readSnapshot :: rest ∧ t = startSnapshot (setProgram rest u)

theorem endRun_cases (o : SnapshotOutcome) (c : Option SnapshotRun) :
    endRun o c = c ∨ ∃ q, c = some q ∧ q.outcome = .running ∧ endRun o c = some { q with outcome := o } := by
  cases c with
  | none => exact .inl rfl
  | some q =>
    by_cases running : q.outcome = .running
    · exact .inr ⟨q, rfl, running, by simp [endRun, running]⟩
    · exact .inl (by simp [endRun, running])

theorem hostTurn_eq (h : hostTurn s = some u) : u = setInputs u.inputs s := by
  unfold hostTurn at h
  split at h
  · obtain rfl := Option.some.inj h
    rfl
  · obtain rfl := Option.some.inj h
    rfl
  · cases h

/-- Of the agents, the host alone has a hand in the call. -/
theorem step_run_or_hostStep (h : step s = .next t) :
    t.run = s.run ∨ ∃ u, hostTurn s = some u ∧ hostStep u = .next t := by
  rcases step_next h with ⟨turn, h⟩ | ⟨rest, turn, h⟩ | ⟨a, rest, -, h⟩ | ⟨a, rest, -, h⟩ | ⟨rest, -, rfl⟩
  · exact .inr ⟨s, hostTurn_of_noInputs turn, h⟩
  · exact .inr ⟨setInputs rest s, by simp only [hostTurn, turn], h⟩
  · exact .inl (sameHost_transportAnswer h).run
  · obtain ⟨rs, -, rfl⟩ := lateAnswer_next h
    exact .inl rfl
  · exact .inl rfl

/-- Everything a step can do to the last call: leave it, make a new one, or end or count a row of one that is running. -/
theorem step_run_cases (h : step s = .next t) :
    t.run = s.run ∨ StartsCall s t ∨ ∃ q, s.run = some q ∧ q.outcome = .running ∧ (EndsCall s t q ∨ CountsRow s t q) := by
  rcases step_run_or_hostStep h with keeps | ⟨u, turn, h⟩
  · exact .inl keeps
  obtain ⟨i, rfl⟩ : ∃ i, u = setInputs i s := ⟨_, hostTurn_eq turn⟩
  rcases hostStep_run h with keeps | ⟨e, failed⟩ | ⟨rest, ⟨call, rfl⟩ | ⟨w, l, endRow, rfl⟩ | ⟨-, rfl⟩⟩
  · exact .inl keeps
  · rcases endRun_cases (.failed e) s.run with ended | ⟨q, hq, running, ended⟩
    · exact .inl (failed.trans ended)
    · exact .inr (.inr ⟨q, hq, running, .inl ⟨_, failed.trans ended, nofun⟩⟩)
  · exact .inr (.inl ⟨_, rest, turn, call, rfl⟩)
  · rcases endSnapshotRow_cases w l (setProgram rest (setInputs i s)) with e | ⟨q, hq, running, good, e⟩ |
      ⟨q, hq, running, -, e⟩ <;> rw [e]
    · exact .inl rfl
    · exact .inr (.inr ⟨q, hq, running, .inr ⟨rfl, _, rest, w, l, turn, endRow, good⟩⟩)
    · exact .inr (.inr ⟨q, hq, running, .inl ⟨_, rfl, nofun⟩⟩)
  · rcases endSnapshot_cases (setProgram rest (setInputs i s)) with e | ⟨q, hq, running, e⟩ <;> rw [e]
    · exact .inl rfl
    · exact .inr (.inr ⟨q, hq, running, .inl ⟨_, rfl, fun _ => snapshotResult_complete⟩⟩)

/-! ### The statements -/

/-- Settles O48: a step has an effect on a call only where it is new or running. -/
theorem snapshotRunIsFreshAndKept : Obligations.SnapshotRunIsFreshAndKept := by
  refine ⟨fun s rest hprog => hostStep_of_program hprog, fun s t r hr ended h => ?_⟩
  rcases step_run_cases h with keeps | ⟨u, rest, turn, call, -⟩ | ⟨q, hq, running, -⟩
  · exact .inl keeps
  · exact .inr ⟨u, rest, turn, call⟩
  · obtain rfl : r = q := Option.some.inj (hr.symm.trans hq)
    exact absurd running ended

/-- A call that is complete after a step was so before, or the step ended it with its record. -/
theorem complete_after_step {record : Snapshot} (h : step s = .next t) (hr : t.run = some r)
    (complete : r.outcome = .complete record) :
    s.run = some r ∨ (r.rows = 23 ∧ assembleSnapshot (runValues r t) = some record ∧
      ∃ q, s.run = some q ∧ q.outcome = .running) := by
  rcases step_run_cases h with keeps | ⟨u, rest, -, -, rfl⟩ | ⟨q, hq, running, ⟨o, ht, record⟩ | ⟨ht, -⟩⟩
  · exact .inl (keeps.symm.trans hr)
  · obtain rfl := Option.some.inj hr
    cases complete
  · obtain rfl := Option.some.inj (ht.symm.trans hr)
    obtain ⟨rows, values⟩ := record _ complete
    exact .inr ⟨rows.trans (length_snapshotRows _), values, q, hq, running⟩
  · obtain rfl := Option.some.inj (ht.symm.trans hr)
    cases running.symm.trans complete

/-- A call's rows after a step: as many as before, none in a new call, or one more where the step counts a row. -/
theorem rows_after_step (h : step s = .next t) (hq : s.run = some q) (hr : t.run = some r) :
    r.rows = q.rows ∨ (r.rows = 0 ∧ r.outcome = .running) ∨ (r.rows = q.rows + 1 ∧ CountsRow s t q) := by
  rcases step_run_cases h with keeps | ⟨u, rest, -, -, rfl⟩ | ⟨p, hp, -, moves⟩
  · obtain rfl := Option.some.inj (hr.symm.trans (keeps.trans hq))
    exact .inl rfl
  · obtain rfl := Option.some.inj hr
    exact .inr (.inl ⟨rfl, rfl⟩)
  · obtain rfl := Option.some.inj (hp.symm.trans hq)
    rcases moves with ⟨o, ht, -⟩ | counts
    · obtain rfl := Option.some.inj (ht.symm.trans hr)
      exact .inl rfl
    · obtain rfl := Option.some.inj (counts.1.symm.trans hr)
      exact .inr (.inr ⟨rfl, counts⟩)

/-- Settles O49: PVALID in a state that meets the invariant is there after a good echo alone (R24, R121). -/
theorem snapshotNeedsGoodRows : Obligations.SnapshotNeedsGoodRows := by
  refine ⟨fun s t r record h hr complete => complete_after_step h hr complete, fun s t q r h hq hr => ?_⟩
  rcases rows_after_step h hq hr with same | fresh | ⟨rows, -, u, rest, w, l, turn, endRow, good⟩
  · exact .inl same
  · exact .inr (.inl fresh)
  · obtain ⟨idle, valid, rfl, rfl⟩ := rowGood_iff.mp good
    have echo (invariant : GoodState s) : EchoGood s := by
      obtain ⟨-, -, -, echo⟩ := invariant.validGood valid
      exact echo
    exact .inr (.inr ⟨rows, idle, valid, echo, u, rest, framedTriplet s, turn, endRow, framedTriplet_bytes s⟩)

end Sys2Proof.Machine
end

section
/-! SUPPORT. What raises an error, what entering FAULT writes, and what FAULT keeps until a reset (R220 to R226). -/

namespace Sys2Proof.Machine

variable {s t : State} {a : Answer}

/-! ### Which agent moved -/

/-- To the transaction, a late answer is no more than a host that leaves it alone: an answer to the pending request and a
reset are the only other moves (R6, R251). -/
theorem step_hostMove_or_answer_or_reset (h : step s = .next t) :
    HostMove s t ∨ (∃ a rest, s.inputs = .answer a :: rest ∧ transportAnswer a (setInputs rest s) = .next t) ∨
    (∃ rest, s.inputs = .reset :: rest ∧ t = resetBlock (setInputs rest s)) := by
  rcases step_next h with ⟨-, h⟩ | ⟨rest, -, h⟩ | answer | ⟨a, rest, -, h⟩ | reset
  · exact .inl (hostStep_hostMove h)
  · exact .inl (hostStep_hostMove h : HostMove (setInputs rest s) t)
  · exact .inr (.inl answer)
  · obtain ⟨rs, -, rfl⟩ := lateAnswer_next h
    exact .inl (.inl rfl)
  · exact .inr (.inr reset)

/-- A step takes the first of the inputs, where there is one, and adds none (log entry 1). -/
theorem inputs_of_step (h : step s = .next t) : t.inputs = s.inputs.tail := by
  rcases step_next h with ⟨turn, h⟩ | ⟨rest, turn, h⟩ | ⟨a, rest, turn, h⟩ | ⟨a, rest, turn, h⟩ | ⟨rest, turn, rfl⟩
  · rw [inputs_hostStep h, turn, List.tail_nil]
  · rw [inputs_hostStep h, turn, setInputs_inputs, List.tail_cons]
  · rw [(sameHost_transportAnswer h).inputs, turn, setInputs_inputs, List.tail_cons]
  · obtain ⟨rs, -, rfl⟩ := lateAnswer_next h
    rw [turn, setInputs_inputs, List.tail_cons]
  · rw [turn, resetBlock_inputs, setInputs_inputs, List.tail_cons]

/-! ### The host raises no error -/

theorem err_hostMove (h : HostMove s t) : t.err = s.err := by
  rcases h with keeps | ⟨u, -, hu, ht⟩
  · exact err_of_transaction keeps
  · rw [err_of_transaction ht, issueReport_err, err_of_transaction hu]

/-- The host's one way to change the phase is from IDLE to TX. -/
theorem fault_hostMove (h : HostMove s t) : t.phase = .fault ↔ s.phase = .fault := by
  rcases h with keeps | ⟨u, idle, hu, ht⟩
  · rw [phase_of_transaction keeps]
  · rw [phase_of_transaction ht, ← phase_of_transaction hu, idle, issueReport_phase]
    exact ⟨nofun, nofun⟩

/-- Settles O54: what is left is a move of the host. -/
theorem onlyAnswersRaiseErrors : Obligations.OnlyAnswersRaiseErrors := by
  intro s t h noAnswer notReset
  rcases step_hostMove_or_answer_or_reset h with move | ⟨a, rest, turn, -⟩ | ⟨rest, turn, -⟩
  · exact ⟨err_hostMove move, fault_hostMove move⟩
  · exact absurd turn (noAnswer a rest)
  · exact absurd turn (notReset rest)

/-! ### Entering FAULT -/

/-- The state `t` is `s` with an error of the block raised: but for ERR and PHASE, only the diagnostics XFAIL, TXCNT, RXCNT
and RXB, and the model's note of the device's channel, may differ (R220, R224). -/
def ErrorRaised (s t : State) : Prop :=
  ∃ (e : BitVec 4) (x : Bool) (n m : Byte) (rxb : Memory) (ch : Option Channel), (e = 2 ∨ e = 3 ∨ e = 4) ∧
    t = { s with err := e, phase := .fault, xfail := x, txcnt := n, rxcnt := m, rxb := rxb, channel := ch }

theorem errorRaised_writeAnswer (fault : t.phase = .fault) (h : writeAnswer a s = .next t) : ErrorRaised s t := by
  rcases writeAnswer_next h with ⟨-, rfl⟩ | ⟨n, -, -, rfl⟩ | ⟨-, rfl⟩
  · cases fault
  · exact ⟨_, _, _, _, _, _, .inl rfl, rfl⟩
  · exact ⟨_, _, _, _, _, _, .inl rfl, rfl⟩

/-- A full read ends in FAULT by a wrong echo alone (R120). -/
theorem errorRaised_readAnswer (fault : t.phase = .fault) (h : readAnswer a s = .next t) : ErrorRaised s t := by
  rcases readAnswer_next h with ⟨b, -, -, rfl⟩ | ⟨b, -, -, rfl⟩ | ⟨-, rfl⟩
  · rcases validate_cases (storeResponse b s) with ⟨-, e⟩ | ⟨-, e⟩ <;> rw [e] at fault ⊢
    · cases fault
    · exact ⟨_, _, _, _, _, _, .inr (.inr rfl), rfl⟩
  · exact ⟨_, _, _, _, _, _, .inr (.inl rfl), rfl⟩
  · exact ⟨_, _, _, _, _, _, .inr (.inl rfl), rfl⟩

theorem errorRaised_transportAnswer (fault : t.phase = .fault) (h : transportAnswer a s = .next t) : ErrorRaised s t := by
  rcases transportAnswer_next h with ⟨-, h⟩ | ⟨-, h⟩
  · exact errorRaised_writeAnswer fault h
  · exact errorRaised_readAnswer fault h

/-- Settles O55: the host does not enter FAULT and a reset ends in IDLE, so an answer raised the error. -/
theorem faultEntryKeepsTheRest : Obligations.FaultEntryKeepsTheRest := by
  intro s t h notFault fault
  rcases step_hostMove_or_answer_or_reset h with move | ⟨a, rest, -, answer⟩ | ⟨rest, -, rfl⟩
  · exact absurd ((fault_hostMove move).mp fault) notFault
  · obtain ⟨e, x, n, m, rxb, ch, code, rfl⟩ := errorRaised_transportAnswer fault answer
    exact ⟨code, rfl, rfl, rfl, rfl, rfl, rfl, rfl, rfl, rfl, rfl, rfl, rfl, rfl, rfl, rfl, rfl⟩
  · cases fault

/-! ### In FAULT -/

/-- Out of IDLE a host issues nothing (R112, R113). -/
theorem hostMove_of_notIdle (notIdle : s.phase ≠ .idle) (h : HostMove s t) : transaction t = transaction s := by
  rcases h with keeps | ⟨u, idle, hu, -⟩
  · exact keeps
  · exact absurd ((phase_of_transaction hu).symm.trans idle) notIdle

/-- FAULT has no request pending that an answer could be to (R53, R226). -/
theorem transportAnswer_phase_ne_fault (h : transportAnswer a s = .next t) : s.phase ≠ .fault := by
  rcases transportAnswer_next h with ⟨tx, -⟩ | ⟨rx, -⟩
  · rw [tx]; nofun
  · rw [rx]; nofun

theorem step_of_fault (fault : s.phase = .fault) (stays : noReset s.inputs) (h : step s = .next t) :
    transaction t = transaction s := by
  rcases step_hostMove_or_answer_or_reset h with move | ⟨a, rest, -, answer⟩ | ⟨rest, turn, -⟩
  · exact hostMove_of_notIdle (by rw [fault]; nofun) move
  · exact (transportAnswer_phase_ne_fault answer fault).elim
  · exact absurd (turn ▸ List.mem_cons_self) stays

theorem noReset_of_step (h : step s = .next t) (stays : noReset s.inputs) : noReset t.inputs :=
  fun reset => stays (List.mem_of_mem_tail (inputs_of_step h ▸ reset))

theorem run_of_fault {k : Nat} (fault : s.phase = .fault) (stays : noReset s.inputs)
    (h : Host.Core.run Sys2Proof.core k s = .next t) : transaction t = transaction s := by
  induction k generalizing s with
  | zero =>
    obtain rfl := Host.Outcome.next.inj h
    rfl
  | succ k ih =>
    obtain ⟨u, hstep, hrun⟩ := run_succ_next h
    have keeps : transaction u = transaction s := step_of_fault fault stays hstep
    exact (ih ((phase_of_transaction keeps).trans fault) (noReset_of_step hstep stays) hrun).trans keeps

/-- Settles O56: PHASE, ERR, the reports sent, the buffers, the counts and the flags are of the transaction, which no step in
FAULT changes without a reset. -/
theorem faultIsTerminal : Obligations.FaultIsTerminal := by
  intro k s t fault stays h
  have keeps : transaction t = transaction s := run_of_fault fault stays h
  exact ⟨(phase_of_transaction keeps).trans fault, err_of_transaction keeps, sent_of_transaction keeps,
    txb_of_transaction keeps, rxb_of_transaction keeps, payload_of_transaction keeps, (congrArg State.txcnt keeps :),
    (congrArg State.rxcnt keeps :), (congrArg State.xfail keeps :), (congrArg State.pvalid keeps :),
    (congrArg State.plen keeps :)⟩

end Sys2Proof.Machine
end

section
/-! SUPPORT. A reset while the Transport is asked, and the late answer to what it abandoned (R250, R251). -/

namespace Sys2Proof.Machine

variable {s : State} {a : Answer} {r : Request} {rest : List Input}

/-! ### The late answer -/

theorem step_of_lateAnswer (h : s.inputs = .lateAnswer a :: rest) : step s = lateAnswer a (setInputs rest s) := by
  simp only [step, agentStep, h, inputStep]

/-- A late answer finds a request to strike wherever an abandoned one admits it. -/
theorem exists_strikeAbandoned {rs : List Request} (abandoned : r ∈ rs) (admits : admissible r a = true) :
    ∃ qs, strikeAbandoned a rs = some qs := by
  induction rs with
  | nil => cases abandoned
  | cons q rs ih =>
    cases hq : admissible q a with
    | true => exact ⟨rs, by simp [strikeAbandoned, hq]⟩
    | false =>
      have older : r ∈ rs := (List.mem_cons.mp abandoned).resolve_left (by rintro rfl; simp [hq] at admits)
      obtain ⟨qs, hqs⟩ := ih older
      exact ⟨q :: qs, by simp [strikeAbandoned, hq, hqs]⟩

theorem lateAnswer_of_strike {qs : List Request} (h : strikeAbandoned a s.abandoned = some qs) :
    lateAnswer a s = .next { s with abandoned := qs } := by
  simp only [lateAnswer, h]

/-! ### The reset -/

/-- In TX or RX the request joins the abandoned ones, and what the device made of it is not known (R251). -/
theorem resetBlock_of_pending (pending : pendingRequest s = some r) :
    resetBlock s = { State.reset with
      sent := s.sent, abandoned := s.abandoned ++ [r], program := s.program, reads := s.reads, stopped := s.stopped,
      run := s.run, inputs := s.inputs, params := s.params } := by
  simp only [resetBlock, pending, Option.toList_some, Option.isSome_some, if_true, State.reset]

/-- Settles O27: after the reset the abandoned request is the youngest on the list, so the late answer has one to strike, and
the list is all it changes. -/
theorem resetAbandonsTransaction : Obligations.ResetAbandonsTransaction := by
  intro s a r rest turn pending admits
  obtain ⟨qs, strike⟩ := exists_strikeAbandoned (List.mem_concat_self (xs := s.abandoned)) admits
  obtain ⟨older, newer, q, split, admitted, passed, rfl⟩ := strikeAbandoned_some strike
  refine ⟨older, newer, q, split, admitted, passed, ?_⟩
  have reset := step_of_reset turn
  rw [resetBlock_of_pending (s := setInputs (.lateAnswer a :: rest) s) pending] at reset
  rw [run_succ reset, run_one, step_of_lateAnswer rfl]
  exact lateAnswer_of_strike strike

end Sys2Proof.Machine
end
